-- ==== Sys2Proof/Word.lean ====
section
/-! DEFINITION. The word types of the controller (00_scope.md R12, R13). -/

namespace Sys2Proof

/-- A byte, `u8` (R12). -/
abbrev Byte := BitVec 8

/-- `u16`: frame counters (R12). -/
abbrev U16 := BitVec 16

/-- `u32`: windows, delays, timer, PRNG state (R12). -/
abbrev U32 := BitVec 32

/-- An identifier or key register: a fixed number of bytes, index 0 first (R13, R103). -/
abbrev Bytes (n : Nat) := Vector Byte n

end Sys2Proof
end

