-- ==== Sys2Proof/Syntax.lean ====
section
/-! DEFINITION. The instructions: one constructor per row of spec/opcode_table.json, 31 commands of the command port
(30_encoding.md R132) and 8 frame kinds keyed by MHDR (R152, R163). -/

namespace Sys2Proof

/-- The instructions. `text` is an `h[n]` operand, n ASCII bytes of hexadecimal text (R131). A frame is its five
low MHDR bits (RFU and Major, R151) and the bytes after MHDR; its constructor is its MType (R152). -/
inductive Instr where
  | setDeveui (text : List Byte)
  | setAppeui (text : List Byte)
  | setAppkey (text : List Byte)
  | setNwkskey (text : List Byte)
  | setAppskey (text : List Byte)
  | setDevaddr (text : List Byte)
  | setFcntTx (v : U16)
  | setFcntRx (v : U16)
  | getFcntTx
  | getFcntRx
  | setTxpower (p : Byte)
  | setDatarate (d : Byte)
  | setChannel (c : Byte)
  | getChannel
  | getDatarate
  | setRx1Window (v : U32)
  | setRx2Window (v : U32)
  | setRx1Delay (v : U32)
  | setRx2Delay (v : U32)
  | setDeviceClass (c : Byte)
  | init (seed : U32)
  | join
  | sleep
  | wakeup
  /-- The length operand is the payload's length (R300). -/
  | sendUplink (confirm port : Byte) (payload : List Byte)
  | sendAck
  | readData
  | readAck
  | registerOnMessage (e : Byte)
  | getRssi
  | update
  | joinRequest (low : BitVec 5) (body : List Byte)
  | joinAccept (low : BitVec 5) (body : List Byte)
  | unconfirmedDataUp (low : BitVec 5) (body : List Byte)
  | unconfirmedDataDown (low : BitVec 5) (body : List Byte)
  | confirmedDataUp (low : BitVec 5) (body : List Byte)
  | confirmedDataDown (low : BitVec 5) (body : List Byte)
  | rfuMtype (low : BitVec 5) (body : List Byte)
  | proprietary (low : BitVec 5) (body : List Byte)
deriving DecidableEq, Repr

/-! ### The pseudo-commands of R138, each with its expansion -/

/-- `SET_CHANNEL MULTI` (R138). -/
def Instr.setChannelMulti : Instr := .setChannel 8#8

/-- `SET_DEVICE_CLASS CLASS_A` (R138). -/
def Instr.setDeviceClassA : Instr := .setDeviceClass 0#8

/-- `SET_DEVICE_CLASS CLASS_C` (R138). -/
def Instr.setDeviceClassC : Instr := .setDeviceClass 2#8

/-- `SEND_UNCONFIRMED port, p` (R138). -/
def Instr.sendUnconfirmed (port : Byte) (p : List Byte) : Instr := .sendUplink 0#8 port p

/-- `SEND_CONFIRMED port, p` (R138). -/
def Instr.sendConfirmed (port : Byte) (p : List Byte) : Instr := .sendUplink 1#8 port p

end Sys2Proof
end

