-- ==== Sys2Proof/WellFormed.lean ====
section
/-! DEFINITION. Which terms of Instr are instructions: the operand lengths of 30_encoding.md R132 and the frame
length of R161. -/

namespace Sys2Proof

/-- Whether the instruction comes in at the command port (R132); otherwise it is a frame (R152). -/
def Instr.isCommand : Instr → Bool
  | .joinRequest .. | .joinAccept .. | .unconfirmedDataUp .. | .unconfirmedDataDown .. => false
  | .confirmedDataUp .. | .confirmedDataDown .. | .rfuMtype .. | .proprietary .. => false
  | .setDeveui .. | .setAppeui .. | .setAppkey .. | .setNwkskey .. | .setAppskey .. | .setDevaddr .. => true
  | .setFcntTx .. | .setFcntRx .. | .getFcntTx | .getFcntRx => true
  | .setTxpower .. | .setDatarate .. | .setChannel .. | .getChannel | .getDatarate => true
  | .setRx1Window .. | .setRx2Window .. | .setRx1Delay .. | .setRx2Delay .. | .setDeviceClass .. => true
  | .init .. | .join | .sleep | .wakeup | .sendUplink .. | .sendAck | .readData | .readAck => true
  | .registerOnMessage .. | .getRssi | .update => true

/-- The operand checks: text operands have the opcode's length (R132), a payload fits the u8 length operand (R300),
and a frame has at most MAX_PHY = 255 bytes, MHDR among them (R161). -/
def Instr.wellFormed : Instr → Bool
  | .setDeveui t | .setAppeui t => t.length == 16
  | .setAppkey t | .setNwkskey t | .setAppskey t => t.length == 32
  | .setDevaddr t => t.length == 8
  | .sendUplink _ _ p => p.length ≤ 255
  | .joinRequest _ b | .joinAccept _ b | .unconfirmedDataUp _ b | .unconfirmedDataDown _ b => b.length ≤ 254
  | .confirmedDataUp _ b | .confirmedDataDown _ b | .rfuMtype _ b | .proprietary _ b => b.length ≤ 254
  | .setFcntTx .. | .setFcntRx .. | .getFcntTx | .getFcntRx => true
  | .setTxpower .. | .setDatarate .. | .setChannel .. | .getChannel | .getDatarate => true
  | .setRx1Window .. | .setRx2Window .. | .setRx1Delay .. | .setRx2Delay .. | .setDeviceClass .. => true
  | .init .. | .join | .sleep | .wakeup | .sendAck | .readData | .readAck => true
  | .registerOnMessage .. | .getRssi | .update => true

end Sys2Proof
end

