-- ==== Sys2Proof/Decode.lean ====
section
/-! DEFINITION. The decoders of the two encoded interfaces, the command port (30_encoding.md R130 to R135) and the
PHY frames (R150 to R163), both total and rejecting by name, and the encoder. -/

namespace Sys2Proof

/-! ### Little-endian integers (00_scope.md R13; 20_memory.md R104, R105) -/

/-- `le16` (R13). -/
def le16 (v : U16) : List Byte := [v.extractLsb' 0 8, v.extractLsb' 8 8]

/-- `le32` (R13). -/
def le32 (v : U32) : List Byte :=
  [v.extractLsb' 0 8, v.extractLsb' 8 8, v.extractLsb' 16 8, v.extractLsb' 24 8]

/-- The u16 whose little-endian bytes are these. -/
def ofLe16 (b0 b1 : Byte) : U16 := b1 ++ b0

/-- The u32 whose little-endian bytes are these. -/
def ofLe32 (b0 b1 b2 b3 : Byte) : U32 := (b3 ++ b2 : U16) ++ (b1 ++ b0 : U16)

/-! ### The command port -/

/-- Why a record or a frame is no instruction. -/
inductive Reject where
  /-- BAD_LENGTH, status 0xFE (R133). -/
  | badLength
  /-- BAD_OPCODE, status 0xFF (R133). -/
  | badOpcode
  /-- A frame of no bytes or of more than MAX_PHY (R161, R530). -/
  | badFrameLength
deriving DecidableEq, Repr

/-- An operand of `n` text bytes (R131). -/
def textOperand (n : Nat) (args : List Byte) (k : List Byte → Instr) : Except Reject Instr :=
  if args.length = n then .ok (k args) else .error .badLength

/-- No operand. -/
def noOperand (args : List Byte) (i : Instr) : Except Reject Instr :=
  match args with
  | [] => .ok i
  | _ :: _ => .error .badLength

/-- A `u8` operand (R131). -/
def byteOperand (args : List Byte) (k : Byte → Instr) : Except Reject Instr :=
  match args with
  | [b] => .ok (k b)
  | _ => .error .badLength

/-- A `u16` operand, little-endian (R131). -/
def u16Operand (args : List Byte) (k : U16 → Instr) : Except Reject Instr :=
  match args with
  | [b0, b1] => .ok (k (ofLe16 b0 b1))
  | _ => .error .badLength

/-- A `u32` operand, little-endian (R131). -/
def u32Operand (args : List Byte) (k : U32 → Instr) : Except Reject Instr :=
  match args with
  | [b0, b1, b2, b3] => .ok (k (ofLe32 b0 b1 b2 b3))
  | _ => .error .badLength

/-- The operands of SEND_UPLINK: the record's length is 4 + len (R133, R300). -/
def uplinkOperands (args : List Byte) : Except Reject Instr :=
  match args with
  | len :: confirm :: port :: payload =>
    if payload.length = len.toNat then .ok (.sendUplink confirm port payload) else .error .badLength
  | _ => .error .badLength

/-- The command port's decoder (R132, R133): total, by opcode and record length. -/
def decodeRecord (rec : List Byte) : Except Reject Instr :=
  match rec with
  | [] => .error .badLength
  | op :: args =>
    match op.toNat with
    | 0x01 => textOperand 16 args .setDeveui
    | 0x02 => textOperand 16 args .setAppeui
    | 0x03 => textOperand 32 args .setAppkey
    | 0x04 => textOperand 32 args .setNwkskey
    | 0x05 => textOperand 32 args .setAppskey
    | 0x06 => textOperand 8 args .setDevaddr
    | 0x07 => u16Operand args .setFcntTx
    | 0x08 => u16Operand args .setFcntRx
    | 0x09 => noOperand args .getFcntTx
    | 0x0A => noOperand args .getFcntRx
    | 0x10 => byteOperand args .setTxpower
    | 0x11 => byteOperand args .setDatarate
    | 0x12 => byteOperand args .setChannel
    | 0x13 => noOperand args .getChannel
    | 0x14 => noOperand args .getDatarate
    | 0x18 => u32Operand args .setRx1Window
    | 0x19 => u32Operand args .setRx2Window
    | 0x1A => u32Operand args .setRx1Delay
    | 0x1B => u32Operand args .setRx2Delay
    | 0x1C => byteOperand args .setDeviceClass
    | 0x20 => u32Operand args .init
    | 0x21 => noOperand args .join
    | 0x22 => noOperand args .sleep
    | 0x23 => noOperand args .wakeup
    | 0x28 => uplinkOperands args
    | 0x29 => noOperand args .sendAck
    | 0x2A => noOperand args .readData
    | 0x2B => noOperand args .readAck
    | 0x2C => byteOperand args .registerOnMessage
    | 0x30 => noOperand args .getRssi
    | 0x3F => noOperand args .update
    | _ => .error .badOpcode

/-! ### Frames -/

/-- MHDR from MType (bits 7:5) and the RFU and Major bits (4:0) (R151). -/
def mhdrOf (mtype : BitVec 3) (low : BitVec 5) : Byte := mtype ++ low

/-- MType, MHDR bits 7:5 (R151, R152). -/
def mtypeOf (mhdr : Byte) : BitVec 3 := mhdr.extractLsb' 5 3

/-- The RFU and Major bits of MHDR, 4:0 (R151). -/
def mhdrLow (mhdr : Byte) : BitVec 5 := mhdr.extractLsb' 0 5

/-- The frame decoder's first cut, by MType alone (R152, R163): any frame of 1 to MAX_PHY bytes is one of the eight
kinds. Whether it is accepted is the frame codec's business (41_frame_codec.md R234 to R237). -/
def decodeFrame (frame : List Byte) : Except Reject Instr :=
  match frame with
  | [] => .error .badFrameLength
  | mhdr :: body =>
    if body.length ≤ 254 then
      match (mtypeOf mhdr).toNat with
      | 0 => .ok (.joinRequest (mhdrLow mhdr) body)
      | 1 => .ok (.joinAccept (mhdrLow mhdr) body)
      | 2 => .ok (.unconfirmedDataUp (mhdrLow mhdr) body)
      | 3 => .ok (.unconfirmedDataDown (mhdrLow mhdr) body)
      | 4 => .ok (.confirmedDataUp (mhdrLow mhdr) body)
      | 5 => .ok (.confirmedDataDown (mhdrLow mhdr) body)
      | 6 => .ok (.rfuMtype (mhdrLow mhdr) body)
      | _ => .ok (.proprietary (mhdrLow mhdr) body)
    else .error .badFrameLength

/-! ### The encoder -/

/-- The bytes of an instruction: a record (R132) or a frame (R151, R152). -/
def encode : Instr → List Byte
  | .setDeveui t => 0x01#8 :: t
  | .setAppeui t => 0x02#8 :: t
  | .setAppkey t => 0x03#8 :: t
  | .setNwkskey t => 0x04#8 :: t
  | .setAppskey t => 0x05#8 :: t
  | .setDevaddr t => 0x06#8 :: t
  | .setFcntTx v => 0x07#8 :: le16 v
  | .setFcntRx v => 0x08#8 :: le16 v
  | .getFcntTx => [0x09#8]
  | .getFcntRx => [0x0A#8]
  | .setTxpower p => [0x10#8, p]
  | .setDatarate d => [0x11#8, d]
  | .setChannel c => [0x12#8, c]
  | .getChannel => [0x13#8]
  | .getDatarate => [0x14#8]
  | .setRx1Window v => 0x18#8 :: le32 v
  | .setRx2Window v => 0x19#8 :: le32 v
  | .setRx1Delay v => 0x1A#8 :: le32 v
  | .setRx2Delay v => 0x1B#8 :: le32 v
  | .setDeviceClass c => [0x1C#8, c]
  | .init seed => 0x20#8 :: le32 seed
  | .join => [0x21#8]
  | .sleep => [0x22#8]
  | .wakeup => [0x23#8]
  | .sendUplink confirm port payload => 0x28#8 :: BitVec.ofNat 8 payload.length :: confirm :: port :: payload
  | .sendAck => [0x29#8]
  | .readData => [0x2A#8]
  | .readAck => [0x2B#8]
  | .registerOnMessage e => [0x2C#8, e]
  | .getRssi => [0x30#8]
  | .update => [0x3F#8]
  | .joinRequest low body => mhdrOf 0 low :: body
  | .joinAccept low body => mhdrOf 1 low :: body
  | .unconfirmedDataUp low body => mhdrOf 2 low :: body
  | .unconfirmedDataDown low body => mhdrOf 3 low :: body
  | .confirmedDataUp low body => mhdrOf 4 low :: body
  | .confirmedDataDown low body => mhdrOf 5 low :: body
  | .rfuMtype low body => mhdrOf 6 low :: body
  | .proprietary low body => mhdrOf 7 low :: body

/-- The `match` and `mask` of the instruction's row over its first byte (R132, R163). -/
def Instr.tableRow : Instr → Byte × Byte
  | .setDeveui .. => (0x01, 0xFF)
  | .setAppeui .. => (0x02, 0xFF)
  | .setAppkey .. => (0x03, 0xFF)
  | .setNwkskey .. => (0x04, 0xFF)
  | .setAppskey .. => (0x05, 0xFF)
  | .setDevaddr .. => (0x06, 0xFF)
  | .setFcntTx .. => (0x07, 0xFF)
  | .setFcntRx .. => (0x08, 0xFF)
  | .getFcntTx => (0x09, 0xFF)
  | .getFcntRx => (0x0A, 0xFF)
  | .setTxpower .. => (0x10, 0xFF)
  | .setDatarate .. => (0x11, 0xFF)
  | .setChannel .. => (0x12, 0xFF)
  | .getChannel => (0x13, 0xFF)
  | .getDatarate => (0x14, 0xFF)
  | .setRx1Window .. => (0x18, 0xFF)
  | .setRx2Window .. => (0x19, 0xFF)
  | .setRx1Delay .. => (0x1A, 0xFF)
  | .setRx2Delay .. => (0x1B, 0xFF)
  | .setDeviceClass .. => (0x1C, 0xFF)
  | .init .. => (0x20, 0xFF)
  | .join => (0x21, 0xFF)
  | .sleep => (0x22, 0xFF)
  | .wakeup => (0x23, 0xFF)
  | .sendUplink .. => (0x28, 0xFF)
  | .sendAck => (0x29, 0xFF)
  | .readData => (0x2A, 0xFF)
  | .readAck => (0x2B, 0xFF)
  | .registerOnMessage .. => (0x2C, 0xFF)
  | .getRssi => (0x30, 0xFF)
  | .update => (0x3F, 0xFF)
  | .joinRequest .. => (0x00, 0xE0)
  | .joinAccept .. => (0x20, 0xE0)
  | .unconfirmedDataUp .. => (0x40, 0xE0)
  | .unconfirmedDataDown .. => (0x60, 0xE0)
  | .confirmedDataUp .. => (0x80, 0xE0)
  | .confirmedDataDown .. => (0xA0, 0xE0)
  | .rfuMtype .. => (0xC0, 0xE0)
  | .proprietary .. => (0xE0, 0xE0)

/-! ### Reading a row's word of the opcode table -/

/-- The bytes of a table word: byte k is bits 8k+7..8k. -/
def tableBytes (nbits w : Nat) : List Byte :=
  (List.range ((nbits + 7) / 8)).map fun k => BitVec.ofNat 8 (w >>> (8 * k))

/-- `bs` filled with zero bytes up to `n`. -/
def padTo (n : Nat) (bs : List Byte) : List Byte := bs ++ List.replicate (n - bs.length) 0#8

/-- The record length an opcode fixes, column Len of R132; SEND_UPLINK's is 4 + rec[1] (R134). -/
def recordLength (bs : List Byte) : Nat :=
  match (bs.getD 0 0#8).toNat with
  | 0x01 | 0x02 => 17
  | 0x03 | 0x04 | 0x05 => 33
  | 0x06 => 9
  | 0x07 | 0x08 => 3
  | 0x10 | 0x11 | 0x12 | 0x1C | 0x2C => 2
  | 0x18 | 0x19 | 0x1A | 0x1B | 0x20 => 5
  | 0x28 => 4 + (bs.getD 1 0#8).toNat
  | _ => 1

/-- The shortest frame of the kind an MHDR names: 23 bytes for a join-request (R153), 17 for a join-accept (R154),
12 for a data frame (R156); the other kinds have no layout and take 12 too (log 8). -/
def frameLength (bs : List Byte) : Nat :=
  match (mtypeOf (bs.getD 0 0#8)).toNat with
  | 0 => 23
  | 1 => 17
  | _ => 12

/-- Where a table word goes: the record it is at the command port, or, where no command has its opcode, the frame
it is at the radio port. The bits above `nbits` are zero (log 8). -/
def tableWord (nbits w : Nat) : List Byte ⊕ List Byte :=
  let bs := tableBytes nbits w
  let rec' := padTo (recordLength bs) bs
  match decodeRecord rec' with
  | .error .badOpcode => .inr (padTo (frameLength bs) bs)
  | _ => .inl rec'

/-- The instruction the decoders read from a table word. A word whose opcode a command has is that command's; the
two decode spaces share the byte 0x20 (INIT and JOIN_ACCEPT), which is INIT here (log 8). -/
def decodeTableWord (nbits w : Nat) : Option Instr :=
  match tableWord nbits w with
  | .inl rec' => (decodeRecord rec').toOption
  | .inr frame => (decodeFrame frame).toOption

end Sys2Proof
end

