-- ==== Sys2Proof/Config.lean ====
section
/-! DEFINITION. What the spec fixes for a machine or leaves OPEN (00_scope.md R10, R11; 10_state.md R80 to R92),
and the free values. An opaque constant has no body: no proof can know its value, so whatever is proved holds of
every value. A constraint the spec puts on an OPEN parameter stands in the constant's type (log 13). -/

namespace Sys2Proof.Config

/-- The identification string of the controller (R3). -/
def identification : String := "LoRaWAN-MAC-ctrl/Beelan-v7/LoRaWAN-1.0.x/Class-A+C/OTAA+ABP"

/-! ### The region record (R80, R81, R82) -/

/-- REGION.IS_915 (R80), OPEN. -/
opaque is915 : Bool

/-- Which of the two channel counts of R80 the region has, OPEN. -/
opaque eightChannels : Bool

/-- REGION.CH_COUNT less one; the count is 3 or 8 (R80). -/
def chCountPred : Nat := if eightChannels then 7 else 2

/-- REGION.CH_COUNT (R80). -/
def chCount : Nat := chCountPred + 1

/-- REGION.MAX_DR: 4 for 915 MHz regions, 6 otherwise (R81). -/
def maxDr : Nat := if is915 then 4 else 6

/-- REGION.DEFAULT_CH, below CH_COUNT (R80), OPEN. -/
opaque defaultCh : Fin (chCountPred + 1)

/-- REGION.DEFAULT_DR, at most MAX_DR (R80), OPEN. -/
opaque defaultDr : Fin (maxDr + 1)

/-- REGION.RX1_CH_MAP (R80, R82), OPEN. -/
opaque rx1ChMap : BitVec 3 → BitVec 3

/-- REGION.RX1_DR_MAP (R80, R82), OPEN; total on the three bits of TX_DR (log 13). -/
opaque rx1DrMap : BitVec 3 → Byte

/-- REGION.RX2_DR (R80, R82), OPEN. -/
opaque rx2Dr : Byte

/-- REGION.CH_VALID for the indices at or above CH_COUNT (R80), OPEN. -/
opaque chValidAbove : BitVec 3 → Bool

/-- REGION.CH_VALID: true for every index below CH_COUNT (R80). -/
def chValid (i : BitVec 3) : Bool := decide (i.toNat < chCount) || chValidAbove i

/-! ### Sizes and times (R10, R11) -/

/-- BUF_CAP less one: 1 <= BUF_CAP <= 242 (R11), OPEN. -/
opaque bufCapPred : Fin 242

/-- BUF_CAP, the capacity of TXBUF and RXBUF (R11). -/
def bufCap : Nat := bufCapPred.val + 1

/-- MAX_PHY (R11, R161). -/
def maxPhy : Nat := 255

/-- JOIN_TIMEOUT_MS, decided 6000 (R10, R11; log 15). -/
def joinTimeoutMs : U32 := 6000#32

/-! ### Reset parameters (R11, R601) -/

/-- TXPOWER_RST (R11), OPEN. -/
opaque txPowerRst : Byte

/-- RX2_WINDOW_RST (R11), OPEN. -/
opaque rx2WindowRst : U32

/-- RX2_DELAY_RST (R11), OPEN. -/
opaque rx2DelayRst : U32

/-- RX1_DELAY_RST as a number, at most RX2_DELAY_RST (R11), OPEN. -/
opaque rx1DelayRstVal : Fin (rx2DelayRst.toNat + 1)

/-- RX1_WINDOW_RST as a number: RX1_DELAY_RST + RX1_WINDOW_RST is at most RX2_DELAY_RST (R11), OPEN. -/
opaque rx1WindowRstVal : Fin (rx2DelayRst.toNat - rx1DelayRstVal.val + 1)

/-- RX1_DELAY_RST (R11). -/
def rx1DelayRst : U32 := BitVec.ofNat 32 rx1DelayRstVal.val

/-- RX1_WINDOW_RST (R11). -/
def rx1WindowRst : U32 := BitVec.ofNat 32 rx1WindowRstVal.val

/-! ### The crypto port (R90): five total functions (log 14) -/

/-- CRYPT_PAYLOAD: as many bytes out as in (R90), OPEN. The direction bit is 0 up, 1 down (R231). -/
opaque cryptPayload (key : Bytes 16) (dir : BitVec 1) (devAddr : Bytes 4) (fcnt : U32) {n : Nat} (data : Bytes n) :
  Bytes n

/-- MIC_DATA (R90), OPEN. -/
opaque micData (key : Bytes 16) (dir : BitVec 1) (devAddr : Bytes 4) (fcnt : U32) (msg : List Byte) : Bytes 4

/-- MIC_JOIN (R90), OPEN. -/
opaque micJoin (key : Bytes 16) (msg : List Byte) : Bytes 4

/-- JA_DECRYPT: as many bytes out as in (R90), OPEN. -/
opaque jaDecrypt (key : Bytes 16) {n : Nat} (data : Bytes n) : Bytes n

/-- DERIVE_KEY (R90), OPEN. -/
opaque deriveKey (key : Bytes 16) (tag : Byte) (appNonce netId : Bytes 3) (devNonce : Bytes 2) : Bytes 16

/-! ### The random source and the calibration (R91, R92) -/

/-- PRNG_SEED (R91), OPEN. -/
opaque prngSeed : U32 → U32

/-- PRNG_DRAW(state, n) with n = k + 1: a value below n and the next state (R91), OPEN. -/
opaque prngDraw (state : U32) (k : Nat) : Fin (k + 1) × U32

/-- RSSI_CAL (R92), OPEN; the result is an s16 in two's complement. -/
opaque rssiCal : Byte → U16

/-! ### Free values: draws of the spec, indexed by State's count of draws -/

/-- HEXBAD: any byte, fresh for each malformed digit pair (40_session_store.md R200; log 1). -/
opaque hexBad : Nat → Byte

/-- The RADIO agent's answer to RadioInit (60_exceptions.md R532; log 2). -/
opaque radioInitAnswer : Nat → Bool

/-- The RADIO agent's raw RSSI (60_exceptions.md R533; log 2). -/
opaque rssiRaw : Nat → Byte

/-- Whether the RADIO agent keeps RX_SLOT at a RadioSetMode (60_exceptions.md R530; log 2, log 3). -/
opaque slotKept : Nat → Bool

/-! ### The moves of the agents (00_scope.md R9) -/

/-- One move of one agent (R9). The moves of a run are given by State's agenda and, beyond it, by `anyMove`. -/
inductive Move where
  /-- HOST offers this record on the command port (R114, R130). -/
  | host (rec : List Byte)
  /-- RADIO completes the pending transmission (R531). -/
  | txDone
  /-- RADIO puts this frame into RX_SLOT (R530). -/
  | deliver (frame : List Byte)
  /-- CLOCK steps one millisecond (R72). -/
  | tick
  /-- CTRL takes its step. -/
  | ctrl
deriving DecidableEq, Repr, Inhabited

/-- The move taken when none is listed: any agent, any input, freshly chosen each time (R522; log 4). -/
opaque anyMove : Nat → Move

end Sys2Proof.Config
end

