-- ==== Sys2Proof/Machine/State.lean ====
section
/-! DEFINITION. The state of one controller instance with its radio, port and observations (10_state.md R30 to R76;
60_exceptions.md R510, R530, R535), the machine right after reset (R95, 70_reset_and_hazards.md R600), and the reasons
a step can stop. Fields keep the spec's groups (R30). -/

namespace Sys2Proof.Machine

/-! ### Vocabulary -/

/-- A channel argument of a radio primitive (00_scope.md R15). -/
inductive Channel where
  /-- UP(i), uplink channel i. -/
  | up (i : BitVec 3)
  /-- DOWN(i), RX1 downlink channel i. -/
  | down (i : BitVec 3)
  /-- RX2, the region's fixed channel. -/
  | rx2
deriving DecidableEq, Repr

/-- RADIO_MODE (R67). -/
inductive RadioMode where
  | off
  | sleep
  | standby
  | rxcont (ch : Channel) (dr : Byte)
  | tx
deriving DecidableEq, Repr

/-- The device class, A or C (R42, R51). -/
inductive DevClass where
  | a
  | c
deriving DecidableEq, Repr

/-- CH_MODE (R48). -/
inductive ChMode where
  | fixed
  | multi
deriving DecidableEq, Repr

/-- The command status CMD (R61). -/
inductive CmdStatus where
  | noCommand
  | uplink
  | ack
  | join
deriving DecidableEq, Repr

/-- JOIN_STATE (R64). -/
inductive JoinState where
  | idle
  | joinSent
  | joinAccepted
  | joinTimeout
deriving DecidableEq, Repr

/-- The sequencer phases SEQ (R70). -/
inductive Phase where
  | idle
  | joinTx
  | joinWait
  | cycTx
  | cycWaitRx1
  | cycRx1
  | cycWaitRx2
  | cycRx2
deriving DecidableEq, Repr

/-- The direction of a message (R60). -/
inductive Dir where
  | up
  | down
deriving DecidableEq, Repr

/-- The radio primitives that need RADIO_READY (R15, R510). -/
inductive RadioPrim where
  | setMode
  | transmit
  | available
  | read
  | rssi
deriving DecidableEq, Repr

/-- A model fault with its info (60_exceptions.md R510). -/
inductive ModelFault where
  /-- FAULT_RADIO_NOT_READY, code 1; the info is the primitive (R511). -/
  | radioNotReady (p : RadioPrim)
  /-- FAULT_CHANNEL_UNDEFINED, code 2; the info is the channel index (R512). -/
  | channelUndefined (i : BitVec 3)
  /-- FAULT_INTERNAL, code 3; the info is "buffer bound" (R102, R510). -/
  | bufferBound
deriving DecidableEq, Repr

/-- A fault record: the fault with its info, and the opcode of the command being executed (R510). -/
structure FaultRecord where
  fault : ModelFault
  opcode : Byte
deriving DecidableEq, Repr

/-- What HOST receives: responses (30_encoding.md R135) and ON_MESSAGE events (R136), each as its record's bytes. -/
inductive HostRecord where
  | response (bytes : List Byte)
  | event (bytes : List Byte)
deriving DecidableEq, Repr

/-- An entry of TXLOG: what RadioTransmit was given (60_exceptions.md R531). -/
structure TxEntry where
  frame : List Byte
  ch : Channel
  dr : Byte
  pwr : Byte
deriving DecidableEq, Repr

/-- A byte store: the listed bytes in rising order of index; an unlisted index reads as zero, the reset contents
of both buffers (R95; log 12). -/
abbrev Memory := List Host.Cell

/-! ### The register file by groups -/

/-- Identity (R31 to R33). -/
structure Identity where
  devEui : Bytes 8
  appEui : Bytes 8
  appKey : Bytes 16
deriving DecidableEq, Repr

/-- Join material (R34 to R36). -/
structure JoinMaterial where
  devNonce : Bytes 2
  appNonce : Bytes 3
  netId : Bytes 3
deriving DecidableEq, Repr

/-- Session (R37 to R42). -/
structure Session where
  devAddr : Bytes 4
  nwkSKey : Bytes 16
  appSKey : Bytes 16
  fcntTx : U16
  fcntRx : U16
  classCur : DevClass
deriving DecidableEq, Repr

/-- Radio and protocol settings (R44 to R56). -/
structure Settings where
  txCh : BitVec 3
  rxCh : BitVec 3
  txDr : BitVec 3
  rxDr : Byte
  chMode : ChMode
  confirm : Bool
  mport : Byte
  classReq : DevClass
  txPower : Byte
  rx1Window : U32
  rx2Window : U32
  rx1Delay : U32
  rx2Delay : U32
deriving DecidableEq, Repr

/-- The message metadata register META (R60). -/
structure MsgMeta where
  dir : Dir
  mhdr : Byte
  fctrl : Byte
  fport : Byte
  fportPresent : Bool
deriving DecidableEq, Repr

/-- Buffers and message metadata (R58 to R60). -/
structure Buffers where
  txBuf : Memory
  txLen : Byte
  rxBuf : Memory
  rxLen : Byte
  msgMeta : MsgMeta
deriving DecidableEq, Repr

/-- Status registers (R61 to R69). -/
structure Status where
  cmd : CmdStatus
  ackLatch : Bool
  rxLatch : Bool
  joinState : JoinState
  cbEn : Bool
  radioReady : Bool
  radioMode : RadioMode
  prngState : U32
  fcntWrapped : Bool
deriving DecidableEq, Repr

/-- Sequencer, timer and frame area (R70 to R73). -/
structure Sequencer where
  seq : Phase
  tEnd : U32
  elapsed : U32
  frame : List Byte
deriving DecidableEq, Repr

/-- The RADIO agent's own state (60_exceptions.md R530, R531). -/
structure Radio where
  rxSlot : Option (List Byte)
  txPending : Bool
deriving DecidableEq, Repr

/-- The observation lists, oldest first (R76; 60_exceptions.md R535). -/
structure Observed where
  hostLog : List HostRecord
  txLog : List TxEntry
  modeLog : List RadioMode
deriving DecidableEq, Repr

/-- THE MODEL'S OWN FIELDS, not the spec's: the moves already given, how many moves were taken and how many free
values were drawn (log 1, log 2, log 4, log 20). -/
structure Schedule where
  agenda : List Config.Move
  moves : Nat
  draws : Nat
deriving DecidableEq, Repr

/-- One controller instance (R8, R30) with its radio, command port and observations. -/
structure State where
  identity : Identity
  joinMat : JoinMaterial
  session : Session
  settings : Settings
  buffers : Buffers
  status : Status
  sequencer : Sequencer
  /-- FAULTS (R74): a set, kept without repeats (log 24). -/
  faults : List FaultRecord
  radio : Radio
  /-- The outstanding record of the command port (20_memory.md R114; log 11). -/
  port : Option (List Byte)
  observed : Observed
  schedule : Schedule
deriving DecidableEq, Repr

/-- `zeros(n)` (R13). -/
def zeros (n : Nat) : Bytes n := Vector.replicate n 0#8

/-- Power-on reset (70_reset_and_hazards.md R600): every register at its value of R95, the radio's slot empty and no
transmission pending, the port and the observation lists empty, nothing listed in the agenda (log 20, log 29). -/
def State.reset : State where
  identity := { devEui := zeros 8, appEui := zeros 8, appKey := zeros 16 }
  joinMat := { devNonce := zeros 2, appNonce := zeros 3, netId := zeros 3 }
  session :=
    { devAddr := zeros 4, nwkSKey := zeros 16, appSKey := zeros 16, fcntTx := 0, fcntRx := 0, classCur := .a }
  settings :=
    { txCh := BitVec.ofNat 3 Config.defaultCh.val
      rxCh := Config.rx1ChMap (BitVec.ofNat 3 Config.defaultCh.val)
      txDr := BitVec.ofNat 3 Config.defaultDr.val
      rxDr := Config.rx1DrMap (BitVec.ofNat 3 Config.defaultDr.val)
      chMode := .fixed
      confirm := false
      mport := 1
      classReq := .a
      txPower := Config.txPowerRst
      rx1Window := Config.rx1WindowRst
      rx2Window := Config.rx2WindowRst
      rx1Delay := Config.rx1DelayRst
      rx2Delay := Config.rx2DelayRst }
  buffers :=
    { txBuf := [], txLen := 0, rxBuf := [], rxLen := 0
      msgMeta := { dir := .up, mhdr := 0, fctrl := 0, fport := 0, fportPresent := false } }
  status :=
    { cmd := .noCommand, ackLatch := false, rxLatch := false, joinState := .idle, cbEn := false
      radioReady := false, radioMode := .off, prngState := 0, fcntWrapped := false }
  sequencer := { seq := .idle, tEnd := 0, elapsed := 0, frame := [] }
  faults := []
  radio := { rxSlot := none, txPending := false }
  port := none
  observed := { hostLog := [], txLog := [], modeLog := [] }
  schedule := { agenda := [], moves := 0, draws := 0 }

/-! ### Why a step stops -/

/-- Why a step stops with a fault. -/
inductive Fault where
  /-- Raised by `step` in a state that holds a fault record: such a state is quiescent, no agent has a step (60_exceptions.md
  R510). Safe: the spec gives that state no further step either. -/
  | quiescent
deriving DecidableEq, Repr

/-- Why a step is refused. -/
inductive Refusal where
  /-- Raised by an arm of `exec` whose instruction has no meaning yet; no arm does. Safe. -/
  | notModelled (mnemonic : String)
deriving DecidableEq, Repr

end Sys2Proof.Machine
end

