-- ==== Sys2Proof/Machine/Operands.lean ====
section
/-! DEFINITION. Operand forms: hexadecimal text (40_session_store.md R200, R201), byte sequences and their slices
(00_scope.md R13), saturating sums (R12), u8 truth values (30_encoding.md R135), and the fields of FCtrl and of a
join-accept's bytes (R155, R158, R159). -/

namespace Sys2Proof.Machine

/-! ### Hexadecimal text -/

/-- HEXDIGIT (R200); none is INVALID. -/
def hexDigit (c : Byte) : Option Byte :=
  if 0x30#8 ≤ c ∧ c ≤ 0x39#8 then some (c - 0x30#8)
  else if 0x61#8 ≤ c ∧ c ≤ 0x66#8 then some (c - 0x61#8 + 10#8)
  else if 0x41#8 ≤ c ∧ c ≤ 0x46#8 then some (c - 0x41#8 + 10#8)
  else none

/-- The byte of one pair of characters; a malformed pair gives the free byte numbered `k` (R200; log 1). -/
def hexPair (c1 c2 : Byte) (k : Nat) : Byte :=
  match hexDigit c1, hexDigit c2 with
  | some hi, some lo => (hi <<< 4) ||| lo
  | _, _ => Config.hexBad k

/-- HEXDEC (R200): byte i from characters 2i and 2i+1; a malformed pair i draws the free byte `draws + i`. -/
def hexDecode (text : List Byte) (n draws : Nat) : Bytes n :=
  Vector.ofFn fun i => hexPair (text.getD (2 * i.val) 0#8) (text.getD (2 * i.val + 1) 0#8) (draws + i.val)

/-- One hexadecimal digit of a nibble, in upper case (R201). -/
def hexChar (v : Byte) : Byte := if v < 10#8 then 0x30#8 + v else 0x41#8 + (v - 10#8)

/-- HEXENC (R201): two digits a byte, high nibble first. -/
def hexEncode (bytes : List Byte) : List Byte := 
  bytes.flatMap fun (b : Byte) => [hexChar (b >>> (4 : Nat)), hexChar (b &&& 0x0F#8)]

/-- A letter in upper case, for the case-insensitive comparison of R201. -/
def upperCase (c : Byte) : Byte := if 0x61#8 ≤ c ∧ c ≤ 0x7A#8 then c - 0x20#8 else c

/-! ### Byte sequences -/

/-- `l[i .. i+n-1]` as a register's bytes (R13). -/
def bytesAt (l : List Byte) (i n : Nat) : Bytes n := Vector.ofFn fun j => l.getD (i + j.val) 0#8

/-- `rev` of four bytes of a frame: the display order of a little-endian DevAddr (20_memory.md R104). -/
def addrAt (l : List Byte) (i : Nat) : Bytes 4 := Vector.ofFn fun j => l.getD (i + 3 - j.val) 0#8

/-- `rev` of a register (R13). -/
def revBytes {n : Nat} (v : Bytes n) : List Byte := v.toList.reverse

/-- `s[i .. j-1]` (R13), with the end index excluded. -/
def slice (l : List Byte) (i j : Nat) : List Byte := (l.drop i).take (j - i)

/-- A list as a vector of its own length, the form the length-preserving crypto functions take. -/
def toBytes (l : List Byte) : Bytes l.length := ⟨l.toArray, rfl⟩

/-! ### Numbers -/

/-- `sat32(a + b)` (R12). -/
def sat32 (a b : U32) : U32 := if a.toNat + b.toNat < 2 ^ 32 then a + b else 0xFFFFFFFF#32

/-- The larger of two u32 values. -/
def maxU32 (a b : U32) : U32 := if a < b then b else a

/-- A `u8 bool` (30_encoding.md R135). -/
def boolByte (b : Bool) : Byte := if b then 1#8 else 0#8

/-! ### Fields of FCtrl (R158, R159) -/

/-- The ACK bit, FCtrl bit 5. -/
def fctrlAck (fctrl : Byte) : Bool := fctrl.getLsbD 5

/-- FCtrl with its ACK bit cleared (43_cycle_engine.md R310). -/
def fctrlClearAck (fctrl : Byte) : Byte := fctrl &&& 0xDF#8

/-- FOptsLen, FCtrl bits 3:0. -/
def foptsLen (fctrl : Byte) : Nat := (fctrl.extractLsb' 0 4).toNat

/-! ### Fields of a join-accept that are decoded and not applied (R155) -/

/-- RX1DROffset, DLSettings bits 6:4. -/
def rx1DrOffset (dlSettings : Byte) : BitVec 3 := dlSettings.extractLsb' 4 3

/-- RX2DataRate, DLSettings bits 3:0. -/
def rx2DataRate (dlSettings : Byte) : BitVec 4 := dlSettings.extractLsb' 0 4

/-- The RX1 delay in seconds, RxDelay bits 3:0. -/
def rxDelaySeconds (rxDelay : Byte) : BitVec 4 := rxDelay.extractLsb' 0 4

end Sys2Proof.Machine
end

