-- ==== Sys2Proof/Machine/Ops.lean ====
section
/-! DEFINITION. The named operations over memory, port, radio and faults: the buffers (20_memory.md R100, R102), the
response and the event (30_encoding.md R135, R136), the radio primitives (60_exceptions.md R530 to R533), the PRNG
(10_state.md R91) and raising a model fault (60_exceptions.md R510). -/

namespace Sys2Proof.Machine

/-! ### The byte stores (log 12) -/

/-- The byte at an index; an unlisted index reads as zero. -/
def Memory.read (m : Memory) (a : Nat) : Byte :=
  match m with
  | [] => 0#8
  | (k, v) :: rest => if k = a then v else Memory.read rest a

/-- The store without any entry at an index. -/
def Memory.erase (m : Memory) (a : Nat) : Memory :=
  match m with
  | [] => []
  | (k, v) :: rest => if k = a then Memory.erase rest a else (k, v) :: Memory.erase rest a

/-- The store with a nonzero byte put at an index, in its place. -/
def Memory.insert (m : Memory) (a : Nat) (b : Byte) : Memory :=
  match m with
  | [] => [(a, b)]
  | (k, v) :: rest =>
    if k = a then (a, b) :: rest else if a < k then (a, b) :: (k, v) :: rest else (k, v) :: Memory.insert rest a b

/-- Writing one byte; writing zero removes the entry, so that equal stores are equal lists. -/
def Memory.write (m : Memory) (a : Nat) (b : Byte) : Memory :=
  if b = 0#8 then Memory.erase m a else Memory.insert m a b

/-- The `n` bytes from index `i`. -/
def Memory.readMany (m : Memory) (i n : Nat) : List Byte :=
  match n with
  | 0 => []
  | k + 1 => Memory.read m i :: Memory.readMany m (i + 1) k

/-- The bytes written from index `i` on. -/
def Memory.writeMany (m : Memory) (i : Nat) (bs : List Byte) : Memory :=
  match bs with
  | [] => m
  | b :: rest => Memory.writeMany (Memory.write m i b) (i + 1) rest

/-- The canonical form: indices strictly rising from `lo` on, below `BUF_CAP`, and no entry zero. -/
def Memory.wfFrom (lo : Nat) (m : Memory) : Bool :=
  match m with
  | [] => true
  | (k, v) :: rest => decide (lo ≤ k) && decide (k < Config.bufCap) && !(v == 0#8) && Memory.wfFrom (k + 1) rest

/-- The canonical form of a buffer of BUF_CAP bytes. -/
def Memory.wf (m : Memory) : Bool := Memory.wfFrom 0 m

/-- MemRead(BUF, i, n) (R14, R102): out of bounds raises FAULT_INTERNAL (log 26). -/
def memRead (m : Memory) (i n : Nat) : Except ModelFault (List Byte) :=
  if i + n ≤ Config.bufCap then .ok (Memory.readMany m i n) else .error .bufferBound

/-- MemWrite(BUF, i, n, v) with n = len(v) (R14, R102): out of bounds raises FAULT_INTERNAL. -/
def memWrite (m : Memory) (i : Nat) (bs : List Byte) : Except ModelFault Memory :=
  if i + bs.length ≤ Config.bufCap then .ok (Memory.writeMany m i bs) else .error .bufferBound

/-! ### Raising a model fault (R510) -/

/-- The record of a fault added to FAULTS; nothing else changes. -/
def State.raise (k : ModelFault) (opcode : Byte) (s : State) : State :=
  { s with faults := s.faults.insert { fault := k, opcode := opcode } }

/-- The code of a fault (R510). -/
def ModelFault.code : ModelFault → Nat
  | .radioNotReady _ => 1
  | .channelUndefined _ => 2
  | .bufferBound => 3

/-- The end of a step of the command `opcode` begun in `s`: what it did, or, where it raised a fault, `s` with the
record and nothing of the step (R510, R523). THE ONE PLACE WHERE A FAULT IS TAKEN; there is no return from it (R524). -/
def conclude (opcode : Byte) (s : State) (r : Except ModelFault State) : Host.Outcome State Fault Refusal :=
  .next (match r with
    | .ok t => t
    | .error k => s.raise k opcode)

/-! ### The command port and HOST (R135, R136) -/

/-- The response is delivered and the record is no longer outstanding (R114, R135). -/
def State.respond (bytes : List Byte) (s : State) : State :=
  { s with port := none, observed.hostLog := s.observed.hostLog ++ [.response bytes] }

/-- The bytes of an ON_MESSAGE event (R136). -/
def onMessageBytes (payload : List Byte) (isConfirmed : Bool) (fport : Byte) : List Byte :=
  0xE0#8 :: boolByte isConfirmed :: fport :: BitVec.ofNat 8 payload.length :: payload

/-- Emit ON_MESSAGE when a callback is registered (R65, R136). -/
def State.emitMessage (payload : List Byte) (isConfirmed : Bool) (fport : Byte) (s : State) : State :=
  if s.status.cbEn then
    { s with observed.hostLog := s.observed.hostLog ++ [.event (onMessageBytes payload isConfirmed fport)] }
  else s

/-! ### The radio primitives (R15, R530 to R533) -/

/-- The mode commanded, RX_SLOT kept or emptied as the radio chooses (R530; log 2, log 3). -/
def State.commandMode (m : RadioMode) (s : State) : State :=
  { s with
    status.radioMode := m
    radio.rxSlot := if Config.slotKept s.schedule.draws then s.radio.rxSlot else none
    observed.modeLog := s.observed.modeLog ++ [m]
    schedule.draws := s.schedule.draws + 1 }

/-- RadioSetMode(m) (R66, R530). -/
def radioSetMode (m : RadioMode) (s : State) : Except ModelFault State :=
  if s.status.radioReady then .ok (s.commandMode m) else .error (.radioNotReady .setMode)

/-- What RadioTransmit does on a defined channel (R531). -/
def State.transmit (e : TxEntry) (s : State) : State :=
  { s with
    status.radioMode := .tx
    radio.txPending := true
    observed.txLog := s.observed.txLog ++ [e]
    observed.modeLog := s.observed.modeLog ++ [.tx] }

/-- RadioTransmit(frame, UP(i), dr, pwr) (R66, R512, R531). -/
def radioTransmit (frame : List Byte) (i : BitVec 3) (dr pwr : Byte) (s : State) : Except ModelFault State :=
  if s.status.radioReady then
    if Config.chValid i then .ok (s.transmit { frame := frame, ch := .up i, dr := dr, pwr := pwr })
    else .error (.channelUndefined i)
  else .error (.radioNotReady .transmit)

/-- RadioAvailable() (R66, R530). -/
def radioAvailable (s : State) : Except ModelFault Bool :=
  if s.status.radioReady then .ok s.radio.rxSlot.isSome else .error (.radioNotReady .available)

/-- RX_SLOT read: it is empty, and FRAME holds its frame `f` (R73, R530). -/
def State.readSlot (f : List Byte) (s : State) : State := { s with radio.rxSlot := none, sequencer.frame := f }

/-- `f <- RadioRead(); x[FRAME] <- f`, where `f` is the frame the slot holds (R66, R73, R530). -/
def radioRead (f : List Byte) (s : State) : Except ModelFault State :=
  if s.status.radioReady then .ok (s.readSlot f)
  else .error (.radioNotReady .read)

/-- RadioRssi() (R66, R533): the raw value and the state after the draw (log 2). -/
def radioRssi (s : State) : Except ModelFault (Byte × State) :=
  if s.status.radioReady then .ok (Config.rssiRaw s.schedule.draws, { s with schedule.draws := s.schedule.draws + 1 })
  else .error (.radioNotReady .rssi)

/-- RadioInit() (R532): the answer and the state after the draw; the one primitive that needs no RADIO_READY. -/
def radioInit (s : State) : Bool × State :=
  (Config.radioInitAnswer s.schedule.draws, { s with schedule.draws := s.schedule.draws + 1 })

/-! ### The random source (R91) -/

/-- Draw(PRNG, k + 1) (R91): the value drawn. -/
def drawValue (k : Nat) (s : State) : Nat := (Config.prngDraw s.status.prngState k).1.val

/-- Draw(PRNG, k + 1) (R91): the state after it. -/
def State.afterDraw (k : Nat) (s : State) : State :=
  { s with status.prngState := (Config.prngDraw s.status.prngState k).2 }

end Sys2Proof.Machine
end

