-- ==== Sys2Proof/Machine/Flags.lean ====
section
/-! DEFINITION. The status updates the rules share: SESSION_RESET (40_session_store.md R202), FCNT_ADVANCE
(43_cycle_engine.md R305), the ack latch and the downlink counter of an accepted frame (R310). -/

namespace Sys2Proof.Machine

/-- SESSION_RESET (R202): both counters zero, no command pending. -/
def State.sessionReset (s : State) : State :=
  { s with session.fcntTx := 0#16, session.fcntRx := 0#16, status.cmd := .noCommand }

/-- The draws an identity or key setter of `n` bytes makes are counted: one index for each pair (R200; log 1). -/
def State.countDraws (n : Nat) (s : State) : State := { s with schedule.draws := s.schedule.draws + n }

/-- FCNT_ADVANCE (R305): the increment modulo 2^16, and FCNT_WRAPPED set where it wraps. -/
def State.fcntAdvance (s : State) : State :=
  { s with
    session.fcntTx := s.session.fcntTx + 1#16
    status.fcntWrapped := s.status.fcntWrapped || s.session.fcntTx == 0xFFFF#16 }

/-- "latch 'new ack' and clear the bit" (R310). -/
def State.latchAck (s : State) : State :=
  if fctrlAck s.buffers.msgMeta.fctrl then
    { s with
      status.ackLatch := true
      buffers.msgMeta.fctrl := fctrlClearAck s.buffers.msgMeta.fctrl }
  else s

/-- FCNT_RX raised to an accepted frame's counter when that is higher (R41, R310). -/
def State.raiseFcntRx (c : U16) (s : State) : State :=
  { s with session.fcntRx := if s.session.fcntRx < c then c else s.session.fcntRx }

end Sys2Proof.Machine
end

