-- ==== Sys2Proof/Machine/Channel.lean ====
section
/-! DEFINITION. The channel/rate selector and radio settings (45_channel_rate.md R370 to R379). -/

namespace Sys2Proof.Machine

/-- TX_CH and with it RX_CH (R45, R371, R373). -/
def State.setTxCh (i : BitVec 3) (s : State) : State :=
  { s with settings.txCh := i, settings.rxCh := Config.rx1ChMap i }

/-- TX_DR and with it RX_DR (R47, R375). -/
def State.setTxDr (d : BitVec 3) (s : State) : State :=
  { s with settings.txDr := d, settings.rxDr := Config.rx1DrMap d }

/-- RANDOM_CHANNEL (R373). -/
def randomChannel (s : State) : State :=
  (s.afterDraw Config.chCountPred).setTxCh (BitVec.ofNat 3 (drawValue Config.chCountPred s))

/-- "If channel mode is 'multi', pick a random channel before transmit" (R271, R304, R373). -/
def hopChannel (s : State) : State := if s.settings.chMode = .multi then randomChannel s else s

/-- The register write of SET_CHANNEL (R371). -/
def selectChannel (c : Byte) (s : State) : State :=
  if c ≤ 7#8 then { s with settings.chMode := .fixed }.setTxCh (c.setWidth 3)
  else if c = 8#8 then { s with settings.chMode := .multi }
  else s

/-- SET_CHANNEL (R371). -/
def execSetChannel (c : Byte) (s : State) : Host.Outcome State Fault Refusal :=
  .next ((selectChannel c s).respond [0x00#8])

/-- The register write of SET_DATARATE (R375). -/
def selectDatarate (d : Byte) (s : State) : State :=
  if d.toNat ≤ Config.maxDr then s.setTxDr (d.setWidth 3) else s

/-- SET_DATARATE (R375). -/
def execSetDatarate (d : Byte) (s : State) : Host.Outcome State Fault Refusal :=
  .next ((selectDatarate d s).respond [0x00#8])

/-- SET_TXPOWER (R377). -/
def execSetTxpower (p : Byte) (s : State) : Host.Outcome State Fault Refusal :=
  .next ({ s with settings.txPower := p }.respond [0x00#8])

/-- GET_CHANNEL (R378; log 23). -/
def execGetChannel (s : State) : Host.Outcome State Fault Refusal :=
  .next (s.respond [0x00#8, s.settings.txCh.setWidth 8])

/-- GET_DATARATE (R379; log 23). -/
def execGetDatarate (s : State) : Host.Outcome State Fault Refusal :=
  .next (s.respond [0x00#8, s.settings.txDr.setWidth 8])

end Sys2Proof.Machine
end

