-- ==== Sys2Proof/Machine/Codec.lean ====
section
/-! DEFINITION. The frame encoder/decoder (41_frame_codec.md R230 to R239) over the layouts of 30_encoding.md R150 to
R162, and the crypto port's calls (10_state.md R90). The encoders build the frames of the uplink rows of the opcode
table (JOIN_REQUEST, UNCONFIRMED_DATA_UP, CONFIRMED_DATA_UP); the decoders give the downlink rows their meaning. -/

namespace Sys2Proof.Machine

/-- PAYLOAD_KEY (R230). -/
def payloadKey (s : State) (fport : Byte) : Bytes 16 := if fport = 0#8 then s.session.nwkSKey else s.session.appSKey

/-- CRYPT_PAYLOAD of a byte sequence (R90, R231; log 25). -/
def cryptList (key : Bytes 16) (dir : BitVec 1) (devAddr : Bytes 4) (c : U16) (data : List Byte) : List Byte :=
  (Config.cryptPayload key dir devAddr (c.setWidth 32) (toBytes data)).toList

/-- MIC_DATA of a message as bytes (R90, R231). -/
def micDataList (s : State) (dir : BitVec 1) (c : U16) (msg : List Byte) : List Byte :=
  (Config.micData s.session.nwkSKey dir s.session.devAddr (c.setWidth 32) msg).toList

/-- MIC_JOIN of a message as bytes (R90). -/
def micJoinList (key : Bytes 16) (msg : List Byte) : List Byte := (Config.micJoin key msg).toList

/-- JA_DECRYPT of a byte sequence (R90). -/
def jaDecryptList (key : Bytes 16) (data : List Byte) : List Byte := (Config.jaDecrypt key (toBytes data)).toList

/-! ### Encoders -/

/-- The 19 bytes of a join-request before its MIC (R153, R232). -/
def joinRequestMsg (s : State) : List Byte :=
  0x00#8 :: (revBytes s.identity.appEui ++ (revBytes s.identity.devEui ++ s.joinMat.devNonce.toList))

/-- The join-request frame (R153, R232). -/
def joinRequestFrame (s : State) : List Byte :=
  joinRequestMsg s ++ micJoinList s.identity.appKey (joinRequestMsg s)

/-- ENCODE_JOIN_REQUEST, its frame stored in FRAME (R232, R271). -/
def encodeJoinRequest (s : State) : State :=
  { s with
    sequencer.frame := joinRequestFrame s
    buffers.msgMeta := { dir := .up, mhdr := 0x00#8, fctrl := 0#8, fport := 0#8, fportPresent := false } }

/-- The two kinds of data uplink (R233). -/
inductive DataKind where
  | uplink
  | ack
deriving DecidableEq, Repr

/-- MHDR of a data uplink (R152, R233). -/
def dataUpMhdr (kind : DataKind) (s : State) : Byte :=
  if kind = .uplink ∧ s.settings.confirm = true then 0x80#8 else 0x40#8

/-- FCtrl of a data uplink (R158, R233). -/
def dataUpFctrl (kind : DataKind) : Byte := if kind = .ack then 0x20#8 else 0x00#8

/-- FPort and FRMPayload of a data uplink: absent for an ACK (R233). -/
def dataUpBody (kind : DataKind) (s : State) (payload : List Byte) : List Byte :=
  match kind with
  | .ack => []
  | .uplink =>
    s.settings.mport ::
      cryptList (payloadKey s s.settings.mport) 0#1 s.session.devAddr s.session.fcntTx payload

/-- The bytes of a data uplink before its MIC (R156, R157, R233). -/
def dataUpMsg (kind : DataKind) (s : State) (payload : List Byte) : List Byte :=
  dataUpMhdr kind s :: (revBytes s.session.devAddr ++
    (dataUpFctrl kind :: (le16 s.session.fcntTx ++ dataUpBody kind s payload)))

/-- The data uplink frame carrying `payload` (R233). -/
def dataUpFrame (kind : DataKind) (s : State) (payload : List Byte) : List Byte :=
  dataUpMsg kind s payload ++ micDataList s 0#1 s.session.fcntTx (dataUpMsg kind s payload)

/-- META of a data uplink (R233). -/
def dataUpMeta (kind : DataKind) (s : State) : MsgMeta :=
  { dir := .up, mhdr := dataUpMhdr kind s, fctrl := dataUpFctrl kind
    fport := if kind = .uplink then s.settings.mport else 0#8
    fportPresent := kind = .uplink }

/-- ENCODE_DATA_UP(kind), its frame stored in FRAME (R233, R304). The payload of an UPLINK is read from TXBUF with
the bound of R102; an ACK reads no payload. -/
def encodeDataUp (kind : DataKind) (s : State) : Except ModelFault State := do
  let payload ← match kind with
    | .uplink => memRead s.buffers.txBuf 0 s.buffers.txLen.toNat
    | .ack => .ok []
  return { s with sequencer.frame := dataUpFrame kind s payload, buffers.msgMeta := dataUpMeta kind s }

/-! ### Decoders: none is "no message received" (R234) -/

/-- The fields of an accepted join-accept (R235); the last three are decoded and not applied (R155). -/
structure JoinAcceptInfo where
  appNonce : Bytes 3
  netId : Bytes 3
  devAddr : Bytes 4
  dlSettings : Byte
  rxDelay : Byte
  cfList : List Byte
deriving DecidableEq, Repr

/-- DECODE_JOIN_ACCEPT (R154, R235). -/
def decodeJoinAccept (s : State) (f : List Byte) : Option JoinAcceptInfo :=
  let n := f.length
  let mhdr := f.getD 0 0#8
  let p := jaDecryptList s.identity.appKey (f.drop 1)
  if n ≠ 17 ∧ n ≠ 33 then none
  else if mtypeOf mhdr ≠ 1#3 then none
  else if slice p (n - 5) (n - 1) ≠ micJoinList s.identity.appKey (mhdr :: p.take (n - 5)) then none
  else some
    { appNonce := bytesAt p 0 3, netId := bytesAt p 3 3, devAddr := addrAt p 6
      dlSettings := p.getD 10 0#8, rxDelay := p.getD 11 0#8
      cfList := if n = 33 then slice p 12 28 else [] }

/-- DERIVE_SESSION (R236): NwkSKey and AppSKey. -/
def deriveSession (s : State) (r : JoinAcceptInfo) : Bytes 16 × Bytes 16 :=
  (Config.deriveKey s.identity.appKey 0x01#8 r.appNonce r.netId s.joinMat.devNonce,
   Config.deriveKey s.identity.appKey 0x02#8 r.appNonce r.netId s.joinMat.devNonce)

/-- The fields of an accepted data downlink (R237). -/
structure DataDownInfo where
  mhdr : Byte
  confirmed : Bool
  fctrl : Byte
  fcnt : U16
  fport : Byte
  fportPresent : Bool
  payload : List Byte
deriving DecidableEq, Repr

/-- DECODE_DATA_DOWN (R156, R157, R159, R237), its checks in the order written (R238). -/
def decodeDataDown (s : State) (f : List Byte) : Option DataDownInfo :=
  let n := f.length
  let mhdr := f.getD 0 0#8
  let mt := mtypeOf mhdr
  let fctrl := f.getD 5 0#8
  let c := ofLe16 (f.getD 6 0#8) (f.getD 7 0#8)
  let h := 8 + foptsLen fctrl
  if n < 12 then none
  else if mt ≠ 3#3 ∧ mt ≠ 5#3 then none
  else if addrAt f 1 ≠ s.session.devAddr then none
  else if n < h + 4 then none
  else if slice f (n - 4) n ≠ micDataList s 1#1 c (f.take (n - 4)) then none
  else
    let fport := if h < n - 4 then f.getD h 0#8 else 0#8
    let pl :=
      if h < n - 4 then cryptList (payloadKey s fport) 1#1 s.session.devAddr c (slice f (h + 1) (n - 4)) else []
    if Config.bufCap < pl.length then none
    else some
      { mhdr := mhdr, confirmed := mt = 5#3, fctrl := fctrl, fcnt := c, fport := fport
        fportPresent := h < n - 4, payload := pl }

/-! ### What an accepted downlink does, in both classes (R239, R310, R355) -/

/-- META of an accepted downlink (R239; log 27). -/
def State.acceptMeta (r : DataDownInfo) (s : State) : State :=
  { s with
    buffers.msgMeta :=
      { dir := .down, mhdr := r.mhdr, fctrl := r.fctrl, fport := r.fport, fportPresent := r.fportPresent } }

/-- META, then the ack latch, then FCNT_RX: the part of a result that needs no payload (R310, R355, R522). -/
def State.acceptHeader (r : DataDownInfo) (s : State) : State := ((s.acceptMeta r).latchAck).raiseFcntRx r.fcnt

end Sys2Proof.Machine
end

