-- ==== Sys2Proof/Machine/ClassController.lean ====
section
/-! DEFINITION. The Class A/C mode controller (44_class_controller.md R350 to R358). -/

namespace Sys2Proof.Machine

/-- Continuous receive on the region's fixed RX2 channel and data rate (R82, R353). -/
def rx2Listen : RadioMode := .rxcont .rx2 Config.rx2Dr

/-- The register write of SET_DEVICE_CLASS (R350). -/
def selectClass (c : Byte) (s : State) : State :=
  if c = 0#8 then { s with settings.classReq := .a }
  else if c = 2#8 then { s with settings.classReq := .c }
  else s

/-- SET_DEVICE_CLASS (R350). -/
def execSetDeviceClass (c : Byte) (s : State) : Host.Outcome State Fault Refusal :=
  .next ((selectClass c s).respond [0x00#8])

/-- Disarm (R352) or nothing to do: the tick of a device that wants Class A (R354). -/
def disarmTick (s : State) : Except ModelFault State :=
  match s.session.classCur with
  | .a => .ok s
  | .c => do
    let s1 ← radioSetMode .standby s
    return { s1 with session.classCur := .a }

/-- Arm where it is not armed (R353). -/
def armClassC (s : State) : Except ModelFault State :=
  match s.session.classCur with
  | .c => .ok s
  | .a => do
    let s1 ← radioSetMode rx2Listen s
    return { s1 with session.classCur := .c }

/-- The payload part of a Class C dispatch: RXBUF and the event (R355). -/
def dispatchPayload (r : DataDownInfo) (s : State) : Except ModelFault State :=
  if r.payload.length = 0 then .ok s
  else do
    let m ← memWrite s.buffers.rxBuf 0 r.payload
    return { s with buffers.rxBuf := m }.emitMessage r.payload r.confirmed r.fport

/-- RESULT_C (R355). -/
def resultC (r : Option DataDownInfo) (s : State) : Except ModelFault State := do
  let s1 ← match r with
    | none => .ok s
    | some d => dispatchPayload d (s.acceptHeader d)
  return { s1 with buffers.rxLen := 0#8, status.rxLatch := false }

/-- The one poll of a tick (R354). -/
def pollClassC (s : State) : Except ModelFault State := do
  let _ ← radioAvailable s
  match s.radio.rxSlot with
  | none => return s
  | some f =>
    let s1 ← radioRead f s
    resultC (decodeDataDown s1 f) s1

/-- CLASS_TICK (R354). -/
def classTick (s : State) : Except ModelFault State :=
  match s.settings.classReq with
  | .a => do
    let s1 ← disarmTick s
    return s1.respond [0x00#8]
  | .c => do
    let s1 ← armClassC s
    let s2 ← pollClassC s1
    return s2.respond [0x00#8]

end Sys2Proof.Machine
end

