-- ==== Sys2Proof/Machine/Window.lean ====
section
/-! DEFINITION. The receive-window registers (43_cycle_engine.md R320 to R324), whose setters keep the window
invariant of 10_state.md R57. -/

namespace Sys2Proof.Machine

/-- RX1's close time, counted from transmit end (R57). -/
def rx1Close (s : State) : U32 := sat32 s.settings.rx1Delay s.settings.rx1Window

/-- RX2's close time, counted from transmit end (R309, R312). -/
def rx2Close (s : State) : U32 := sat32 s.settings.rx2Delay s.settings.rx2Window

/-- RX2_DELAY raised to RX1's close time where it is lower (R320, R322). -/
def State.clampRx2 (s : State) : State :=
  { s with settings.rx2Delay := maxU32 s.settings.rx2Delay (rx1Close s) }

/-- SET_RX1_WINDOW (R320). -/
def execSetRx1Window (v : U32) (s : State) : Host.Outcome State Fault Refusal :=
  .next ({ s with settings.rx1Window := v }.clampRx2.respond [0x00#8])

/-- SET_RX2_WINDOW (R321). -/
def execSetRx2Window (v : U32) (s : State) : Host.Outcome State Fault Refusal :=
  .next ({ s with settings.rx2Window := v }.respond [0x00#8])

/-- SET_RX1_DELAY (R322). -/
def execSetRx1Delay (v : U32) (s : State) : Host.Outcome State Fault Refusal :=
  .next ({ s with settings.rx1Delay := v }.clampRx2.respond [0x00#8])

/-- SET_RX2_DELAY (R323). -/
def execSetRx2Delay (v : U32) (s : State) : Host.Outcome State Fault Refusal :=
  .next ({ s with settings.rx2Delay := v }.clampRx2.respond [0x00#8])

end Sys2Proof.Machine
end

