-- ==== Sys2Proof/Machine/Cycle.lean ====
section
/-! DEFINITION. The transmit/receive cycle engine (43_cycle_engine.md R300 to R313): queuing, the tick and the phases of
a Class A cycle. -/

namespace Sys2Proof.Machine

/-- The opcode of UPDATE, which fault records of a cycle's steps carry (R132, R510; log 18). -/
def opUpdate : Byte := 0x3F#8

/-- The opcode of SEND_UPLINK (R132). -/
def opSendUplink : Byte := 0x28#8

/-- The register writes of SEND_UPLINK, for a payload that fits (R300). -/
def queueUplink (confirm port : Byte) (payload : List Byte) (s : State) : Except ModelFault State := do
  let m ← memWrite s.buffers.txBuf 0 payload
  return { s with
    buffers.txBuf := m
    buffers.txLen := BitVec.ofNat 8 payload.length
    settings.confirm := confirm != 0#8
    settings.mport := port
    status.cmd := .uplink }.respond [0x00#8]

/-- SEND_UPLINK (R300): a payload longer than BUF_CAP is silently ignored. -/
def execSendUplink (confirm port : Byte) (payload : List Byte) (s : State) : Host.Outcome State Fault Refusal :=
  conclude opSendUplink s
    (if Config.bufCap < payload.length then .ok (s.respond [0x00#8]) else queueUplink confirm port payload s)

/-- SEND_ACK (R301). -/
def execSendAck (s : State) : Host.Outcome State Fault Refusal :=
  .next ({ s with status.cmd := .ack }.respond [0x00#8])

/-! ### The cycle -/

/-- CYCLE_START up to the encoder: the class and the channel (R304). -/
def prepareCycle (s : State) : State := hopChannel { s with session.classCur := .a }

/-- CYCLE_START (R304; log 23). -/
def cycleStart (kind : DataKind) (s : State) : Except ModelFault State := do
  let s1 ← encodeDataUp kind (prepareCycle s)
  let s2 ← radioSetMode .standby s1
  let s3 ← radioTransmit s2.sequencer.frame s2.settings.txCh (s2.settings.txDr.setWidth 8) s2.settings.txPower s2
  return { s3.fcntAdvance with sequencer.seq := .cycTx }

/-- UPDATE's step (R302): a cycle where an uplink or an ack is pending, else the class tick (log 21). -/
def updateStep (s : State) : Except ModelFault State :=
  match s.status.cmd with
  | .uplink => cycleStart .uplink s
  | .ack => cycleStart .ack s
  | .noCommand | .join => classTick s

/-- UPDATE (R302). -/
def execUpdate (s : State) : Host.Outcome State Fault Refusal := conclude opUpdate s (updateStep s)

/-- The payload part of a Class A result: RXBUF, RXLEN, the event, RX_LATCH, in that order (R310, R522). -/
def storePayload (r : DataDownInfo) (s : State) : Except ModelFault State :=
  if r.payload.length = 0 then .ok s
  else do
    let m ← memWrite s.buffers.rxBuf 0 r.payload
    let s1 : State := { s with buffers.rxBuf := m, buffers.rxLen := BitVec.ofNat 8 r.payload.length }
    return { s1.emitMessage r.payload r.confirmed r.fport with status.rxLatch := true }

/-- RESULT (R310). -/
def resultA (r : DataDownInfo) (s : State) : Except ModelFault State := storePayload r (s.acceptHeader r)

/-- CYCLE_END (R311). -/
def cycleEnd (s : State) : Except ModelFault State := do
  let s0 : State := { s with status.cmd := .noCommand }
  let s1 ← match s0.settings.classReq with
    | .c => do
      let t ← radioSetMode rx2Listen s0
      .ok { t with session.classCur := .c }
    | .a => radioSetMode .standby s0
  return { s1 with sequencer.seq := .idle }.respond [0x00#8]

/-- Phase CYC_TX, at TX_DONE (R306; log 30). -/
def cycleTxDone (s : State) : State :=
  { s with status.radioMode := .standby, sequencer.elapsed := 0#32, sequencer.seq := .cycWaitRx1 }

/-- Phase CYC_WAIT_RX1: RX1 opens (R307). -/
def openRx1 (s : State) : Except ModelFault State := do
  let s1 ← radioSetMode (.rxcont (.down s.settings.rxCh) s.settings.rxDr) { s with sequencer.tEnd := rx1Close s }
  return { s1 with sequencer.seq := .cycRx1 }

/-- Phase CYC_RX1, window close (R308). -/
def closeRx1 (s : State) : Except ModelFault State := do
  let s1 ← radioSetMode .standby s
  return { s1 with sequencer.seq := .cycWaitRx2 }

/-- Phase CYC_WAIT_RX2: RX2 opens (R309). -/
def openRx2 (s : State) : Except ModelFault State := do
  let s1 ← radioSetMode rx2Listen { s with sequencer.tEnd := rx2Close s }
  return { s1 with sequencer.seq := .cycRx2 }

/-- Frame arrival in CYC_RX1 or CYC_RX2 (R308, R309): a rejected frame leaves the window open. -/
def cycleFrame (f : List Byte) (s : State) : Except ModelFault State := do
  let s1 ← radioRead f s
  match decodeDataDown s1 f with
  | none => return s1
  | some r => do
    let s2 ← resultA r s1
    cycleEnd s2

end Sys2Proof.Machine
end

