-- ==== Sys2Proof/Machine/Join.lean ====
section
/-! DEFINITION. The join-state machine (42_join.md R270 to R279): the JOIN command and its phases. -/

namespace Sys2Proof.Machine

/-- The opcode of JOIN, which fault records of the join's steps carry (R132, R510; log 18). -/
def opJoin : Byte := 0x21#8

/-- `x[DEVNONCE] <- JOIN_NONCE()`: two draws of one byte (R272; log 28). -/
def drawNonce (s : State) : State :=
  let s1 := s.afterDraw 255
  { s1.afterDraw 255 with
    joinMat.devNonce := #v[BitVec.ofNat 8 (drawValue 255 s), BitVec.ofNat 8 (drawValue 255 s1)] }

/-- JOIN up to the frame in FRAME: nothing of it can fail (R271). -/
def prepareJoin (s : State) : State :=
  encodeJoinRequest (drawNonce (hopChannel { s with status.cmd := .join, session.classCur := .a }))

/-- The issuing step of JOIN (R271; log 23). -/
def startJoin (s : State) : Except ModelFault State := do
  let s1 ← radioSetMode .standby (prepareJoin s)
  let s2 ← radioTransmit s1.sequencer.frame s1.settings.txCh (s1.settings.txDr.setWidth 8) s1.settings.txPower s1
  return { s2 with status.joinState := .joinSent, sequencer.seq := .joinTx }

/-- JOIN (R271): a blocking command, its response comes at JOIN_END. -/
def execJoin (s : State) : Host.Outcome State Fault Refusal := conclude opJoin s (startJoin s)

/-- JOIN_COMMIT (R276). -/
def joinCommit (r : JoinAcceptInfo) (s : State) : State :=
  { s with
    joinMat.appNonce := r.appNonce
    joinMat.netId := r.netId
    session.devAddr := r.devAddr
    session.nwkSKey := (deriveSession s r).1
    session.appSKey := (deriveSession s r).2
    session.fcntTx := 0#16
    session.fcntRx := 0#16
    status.joinState := .joinAccepted }

/-- JOIN_END (R277). -/
def joinEnd (ok : Bool) (s : State) : Except ModelFault State := do
  let s1 ← radioSetMode .standby s
  return { s1 with status.cmd := .noCommand, sequencer.seq := .idle }.respond [0x00#8, boolByte ok]

/-- Phase JOIN_TX, at TX_DONE (R273; log 30). -/
def joinTxDone (s : State) : Except ModelFault State := do
  let s1 ← radioSetMode (.rxcont (.down s.settings.rxCh) s.settings.rxDr)
    { s with status.radioMode := .standby, sequencer.elapsed := 0#32, sequencer.tEnd := Config.joinTimeoutMs }
  return { s1 with sequencer.seq := .joinWait }

/-- Phase JOIN_WAIT, frame arrival (R274). -/
def joinFrame (f : List Byte) (s : State) : Except ModelFault State := do
  let s1 ← radioRead f s
  match decodeJoinAccept s1 f with
  | none => return s1
  | some r => joinEnd true (joinCommit r s1)

/-- Phase JOIN_WAIT, timeout (R275). -/
def joinTimeout (s : State) : Except ModelFault State := joinEnd false { s with status.joinState := .joinTimeout }

end Sys2Proof.Machine
end

