-- ==== Sys2Proof/Machine/Frames.lean ====
section
/-! DEFINITION. The frame rows of the opcode table as CTRL takes them from the radio (30_encoding.md R152, R162;
60_exceptions.md R503, R520): each is handed, with its bytes, to the decoder of the phase. The uplink kinds are built
by the encoders of Machine/Codec.lean and accepted by no decoder (log 7). -/

namespace Sys2Proof.Machine

/-- CTRL's frame step: the join wait's (R274), the windows' (R308, R309), and none in any other phase, where the frame
waits in RX_SLOT (R520; log 9). -/
def receiveFrame (f : List Byte) (s : State) : Host.Outcome State Fault Refusal :=
  match s.sequencer.seq with
  | .joinWait => conclude opJoin s (joinFrame f s)
  | .cycRx1 | .cycRx2 => conclude opUpdate s (cycleFrame f s)
  | .idle | .joinTx | .cycTx | .cycWaitRx1 | .cycWaitRx2 => .next s

/-- JOIN_REQUEST received: accepted by no decoder (R152). Its encoder is `encodeJoinRequest` (R232). -/
def execJoinRequest (low : BitVec 5) (body : List Byte) (s : State) : Host.Outcome State Fault Refusal :=
  receiveFrame (mhdrOf 0 low :: body) s

/-- JOIN_ACCEPT received (R152, R235). -/
def execJoinAccept (low : BitVec 5) (body : List Byte) (s : State) : Host.Outcome State Fault Refusal :=
  receiveFrame (mhdrOf 1 low :: body) s

/-- UNCONFIRMED_DATA_UP received: accepted by no decoder (R152). Its encoder is `encodeDataUp` (R233). -/
def execUnconfirmedDataUp (low : BitVec 5) (body : List Byte) (s : State) : Host.Outcome State Fault Refusal :=
  receiveFrame (mhdrOf 2 low :: body) s

/-- UNCONFIRMED_DATA_DOWN received (R152, R237). -/
def execUnconfirmedDataDown (low : BitVec 5) (body : List Byte) (s : State) : Host.Outcome State Fault Refusal :=
  receiveFrame (mhdrOf 3 low :: body) s

/-- CONFIRMED_DATA_UP received: accepted by no decoder (R152). Its encoder is `encodeDataUp` (R233). -/
def execConfirmedDataUp (low : BitVec 5) (body : List Byte) (s : State) : Host.Outcome State Fault Refusal :=
  receiveFrame (mhdrOf 4 low :: body) s

/-- CONFIRMED_DATA_DOWN received (R152, R237). -/
def execConfirmedDataDown (low : BitVec 5) (body : List Byte) (s : State) : Host.Outcome State Fault Refusal :=
  receiveFrame (mhdrOf 5 low :: body) s

/-- RFU_MTYPE received: no message (R162). -/
def execRfuMtype (low : BitVec 5) (body : List Byte) (s : State) : Host.Outcome State Fault Refusal :=
  receiveFrame (mhdrOf 6 low :: body) s

/-- PROPRIETARY received: no message (R162). -/
def execProprietary (low : BitVec 5) (body : List Byte) (s : State) : Host.Outcome State Fault Refusal :=
  receiveFrame (mhdrOf 7 low :: body) s

end Sys2Proof.Machine
end

