-- ==== Sys2Proof/Machine/Agents.lean ====
section
/-! DEFINITION. The agents' moves (00_scope.md R9): HOST (20_memory.md R114), RADIO (60_exceptions.md R530, R531), CLOCK
(10_state.md R72), and what CTRL's next step is (R70, R520, R522). A move of an agent that has no step leaves the
state as it is (log 5). -/

namespace Sys2Proof.Machine

/-! ### Which move comes next (log 4) -/

/-- The next move: the first listed one, else a free one. -/
def State.nextMove (s : State) : Config.Move :=
  match s.schedule.agenda with
  | m :: _ => m
  | [] => Config.anyMove s.schedule.moves

/-- The move is taken off the agenda and counted. -/
def State.takeMove (s : State) : State :=
  { s with schedule.agenda := s.schedule.agenda.tail, schedule.moves := s.schedule.moves + 1 }

/-! ### HOST, RADIO, CLOCK -/

/-- HOST offers a record: only in IDLE with nothing outstanding (R114, R420, R520). -/
def hostOffer (rec : List Byte) (s : State) : State :=
  if s.sequencer.seq = .idle ∧ s.port = none then { s with port := some rec } else s

/-- TX_DONE, while a transmission is pending (R531; log 30). -/
def radioTxDone (s : State) : State := if s.radio.txPending then { s with radio.txPending := false } else s

/-- Whether the radio is in continuous receive (R530). -/
def RadioMode.isRxcont : RadioMode → Bool
  | .rxcont _ _ => true
  | .off | .sleep | .standby | .tx => false

/-- A frame of 1 to MAX_PHY bytes is delivered in continuous receive, replacing an unread one (R530). -/
def radioDeliver (f : List Byte) (s : State) : State :=
  if s.status.radioMode.isRxcont = true ∧ 1 ≤ f.length ∧ f.length ≤ Config.maxPhy then
    { s with radio.rxSlot := some f }
  else s

/-- The phases in which ELAPSED advances (R72). -/
def Phase.timed : Phase → Bool
  | .joinWait | .cycWaitRx1 | .cycRx1 | .cycWaitRx2 | .cycRx2 => true
  | .idle | .joinTx | .cycTx => false

/-- A CLOCK step (R72): one more millisecond, saturating. -/
def clockTick (s : State) : State :=
  if s.sequencer.seq.timed then { s with sequencer.elapsed := sat32 s.sequencer.elapsed 1#32 } else s

/-! ### CTRL -/

/-- What CTRL's step is about. -/
inductive Fetched where
  /-- The outstanding record, in IDLE. -/
  | record (rec : List Byte)
  /-- The frame in RX_SLOT, in a receive phase: preferred to the deadline (R522). -/
  | frame (f : List Byte)
  /-- The phase's own step, or none. -/
  | phase
deriving DecidableEq, Repr

/-- What CTRL takes next (R70, R274, R308, R309, R522; log 17). -/
def fetch (s : State) : Fetched :=
  match s.sequencer.seq with
  | .idle => match s.port with
    | some rec => .record rec
    | none => .phase
  | .joinWait | .cycRx1 | .cycRx2 => match s.radio.rxSlot with
    | some f => .frame f
    | none => .phase
  | .joinTx | .cycTx | .cycWaitRx1 | .cycWaitRx2 => .phase

/-- The phase's step with no frame to take, if it is enabled: TX_DONE taken (R273, R306, R531), a window opened (R307,
R309), a window or the join wait closed at its deadline (R275, R308, R309). -/
def phaseStep (s : State) : Host.Outcome State Fault Refusal :=
  match s.sequencer.seq with
  | .idle => .next s
  | .joinTx => if s.radio.txPending then .next s else conclude opJoin s (joinTxDone s)
  | .joinWait => if s.sequencer.tEnd ≤ s.sequencer.elapsed then conclude opJoin s (joinTimeout s) else .next s
  | .cycTx => if s.radio.txPending then .next s else .next (cycleTxDone s)
  | .cycWaitRx1 => if s.settings.rx1Delay ≤ s.sequencer.elapsed then conclude opUpdate s (openRx1 s) else .next s
  | .cycRx1 => if s.sequencer.tEnd ≤ s.sequencer.elapsed then conclude opUpdate s (closeRx1 s) else .next s
  | .cycWaitRx2 => if s.settings.rx2Delay ≤ s.sequencer.elapsed then conclude opUpdate s (openRx2 s) else .next s
  | .cycRx2 => if s.sequencer.tEnd ≤ s.sequencer.elapsed then conclude opUpdate s (cycleEnd s) else .next s

/-- The status byte of a rejected record (R133, R505). -/
def rejectStatus : Reject → Byte
  | .badLength => 0xFE#8
  | .badOpcode => 0xFF#8
  | .badFrameLength => 0xFE#8

/-- A rejected record: the status is the response and nothing else changes (R133, R505). -/
def rejectRecord (r : Reject) (s : State) : Host.Outcome State Fault Refusal := .next (s.respond [rejectStatus r])

end Sys2Proof.Machine
end

