-- ==== Sys2Proof/Machine/Lifecycle.lean ====
section
/-! DEFINITION. Lifecycle, data-path and status commands (46_api_lifecycle.md R400 to R409). -/

namespace Sys2Proof.Machine

/-- The opcode of SLEEP (R132). -/
def opSleep : Byte := 0x22#8

/-- The opcode of WAKEUP (R132). -/
def opWakeup : Byte := 0x23#8

/-- The opcode of READ_DATA (R132). -/
def opReadData : Byte := 0x2A#8

/-- The opcode of GET_RSSI (R132). -/
def opGetRssi : Byte := 0x30#8

/-- The register writes of a successful INIT (R400). -/
def initialise (seed : U32) (s : State) : State :=
  { { s with status.radioReady := true, status.prngState := Config.prngSeed seed }.commandMode .standby with
    session.classCur := .a }

/-- INIT (R400, R501): RadioInit's answer decides; false changes no register. -/
def execInit (seed : U32) (s : State) : Host.Outcome State Fault Refusal :=
  .next (match radioInit s with
    | (true, t) => (initialise seed t).respond [0x00#8, 0x01#8]
    | (false, t) => t.respond [0x00#8, 0x00#8])

/-- SLEEP (R402). -/
def execSleep (s : State) : Host.Outcome State Fault Refusal :=
  conclude opSleep s (do
    let s1 ← radioSetMode .sleep s
    return { s1 with session.classCur := .a }.respond [0x00#8])

/-- WAKEUP (R403). -/
def execWakeup (s : State) : Host.Outcome State Fault Refusal :=
  conclude opWakeup s (do
    let s1 ← radioSetMode .standby s
    return { s1 with session.classCur := .a }.respond [0x00#8])

/-- READ_DATA (R405). -/
def execReadData (s : State) : Host.Outcome State Fault Refusal :=
  conclude opReadData s
    (if s.status.rxLatch then do
      let d ← memRead s.buffers.rxBuf 0 s.buffers.rxLen.toNat
      return { s with status.rxLatch := false }.respond (0x00#8 :: s.buffers.rxLen :: d)
    else .ok (s.respond [0x00#8, 0x00#8]))

/-- READ_ACK (R406). -/
def execReadAck (s : State) : Host.Outcome State Fault Refusal :=
  .next ({ s with status.ackLatch := false }.respond [0x00#8, boolByte s.status.ackLatch])

/-- REGISTER_ON_MESSAGE (R407). -/
def execRegisterOnMessage (e : Byte) (s : State) : Host.Outcome State Fault Refusal :=
  .next ({ s with status.cbEn := e != 0#8 }.respond [0x00#8])

/-- GET_RSSI (R409). -/
def execGetRssi (s : State) : Host.Outcome State Fault Refusal :=
  conclude opGetRssi s (do
    let (raw, s1) ← radioRssi s
    return s1.respond (0x00#8 :: le16 (Config.rssiCal raw)))

end Sys2Proof.Machine
end

