-- ==== Sys2Proof/Machine/Session.lean ====
section
/-! DEFINITION. The session/identity register file commands (40_session_store.md R203 to R212). -/

namespace Sys2Proof.Machine

/-- SET_DEVEUI (R203). -/
def execSetDeveui (text : List Byte) (s : State) : Host.Outcome State Fault Refusal :=
  .next (({ s with identity.devEui := hexDecode text 8 s.schedule.draws }.countDraws 8).sessionReset.respond [0x00#8])

/-- SET_APPEUI (R204). -/
def execSetAppeui (text : List Byte) (s : State) : Host.Outcome State Fault Refusal :=
  .next (({ s with identity.appEui := hexDecode text 8 s.schedule.draws }.countDraws 8).sessionReset.respond [0x00#8])

/-- SET_APPKEY (R205). -/
def execSetAppkey (text : List Byte) (s : State) : Host.Outcome State Fault Refusal :=
  .next (({ s with identity.appKey := hexDecode text 16 s.schedule.draws }.countDraws 16).sessionReset.respond [0x00#8])

/-- SET_NWKSKEY (R206). -/
def execSetNwkskey (text : List Byte) (s : State) : Host.Outcome State Fault Refusal :=
  .next (({ s with session.nwkSKey := hexDecode text 16 s.schedule.draws }.countDraws 16).sessionReset.respond [0x00#8])

/-- SET_APPSKEY (R207). -/
def execSetAppskey (text : List Byte) (s : State) : Host.Outcome State Fault Refusal :=
  .next (({ s with session.appSKey := hexDecode text 16 s.schedule.draws }.countDraws 16).sessionReset.respond [0x00#8])

/-- SET_DEVADDR (R208). -/
def execSetDevaddr (text : List Byte) (s : State) : Host.Outcome State Fault Refusal :=
  .next (({ s with session.devAddr := hexDecode text 4 s.schedule.draws }.countDraws 4).sessionReset.respond [0x00#8])

/-- SET_FCNT_TX (R209). -/
def execSetFcntTx (v : U16) (s : State) : Host.Outcome State Fault Refusal :=
  .next ({ s with session.fcntTx := v }.respond [0x00#8])

/-- SET_FCNT_RX (R210). -/
def execSetFcntRx (v : U16) (s : State) : Host.Outcome State Fault Refusal :=
  .next ({ s with session.fcntRx := v }.respond [0x00#8])

/-- GET_FCNT_TX (R211). -/
def execGetFcntTx (s : State) : Host.Outcome State Fault Refusal :=
  .next (s.respond (0x00#8 :: le16 s.session.fcntTx))

/-- GET_FCNT_RX (R212). -/
def execGetFcntRx (s : State) : Host.Outcome State Fault Refusal :=
  .next (s.respond (0x00#8 :: le16 s.session.fcntRx))

end Sys2Proof.Machine
end

