-- ==== Sys2Proof/Machine/Dispatch.lean ====
section
/-! DEFINITION. The dispatch: one arm per row of spec/opcode_table.json, each a direct call of its meaning. -/

namespace Sys2Proof.Machine

def exec (i : Instr) (s : State) : Host.Outcome State Fault Refusal :=
  match i with
  | .setDeveui text => Sys2Proof.Machine.execSetDeveui text s
  | .setAppeui text => Sys2Proof.Machine.execSetAppeui text s
  | .setAppkey text => Sys2Proof.Machine.execSetAppkey text s
  | .setNwkskey text => Sys2Proof.Machine.execSetNwkskey text s
  | .setAppskey text => Sys2Proof.Machine.execSetAppskey text s
  | .setDevaddr text => Sys2Proof.Machine.execSetDevaddr text s
  | .setFcntTx v => Sys2Proof.Machine.execSetFcntTx v s
  | .setFcntRx v => Sys2Proof.Machine.execSetFcntRx v s
  | .getFcntTx => Sys2Proof.Machine.execGetFcntTx s
  | .getFcntRx => Sys2Proof.Machine.execGetFcntRx s
  | .setTxpower p => Sys2Proof.Machine.execSetTxpower p s
  | .setDatarate d => Sys2Proof.Machine.execSetDatarate d s
  | .setChannel c => Sys2Proof.Machine.execSetChannel c s
  | .getChannel => Sys2Proof.Machine.execGetChannel s
  | .getDatarate => Sys2Proof.Machine.execGetDatarate s
  | .setRx1Window v => Sys2Proof.Machine.execSetRx1Window v s
  | .setRx2Window v => Sys2Proof.Machine.execSetRx2Window v s
  | .setRx1Delay v => Sys2Proof.Machine.execSetRx1Delay v s
  | .setRx2Delay v => Sys2Proof.Machine.execSetRx2Delay v s
  | .setDeviceClass c => Sys2Proof.Machine.execSetDeviceClass c s
  | .init seed => Sys2Proof.Machine.execInit seed s
  | .join => Sys2Proof.Machine.execJoin s
  | .sleep => Sys2Proof.Machine.execSleep s
  | .wakeup => Sys2Proof.Machine.execWakeup s
  | .sendUplink confirm port payload => Sys2Proof.Machine.execSendUplink confirm port payload s
  | .sendAck => Sys2Proof.Machine.execSendAck s
  | .readData => Sys2Proof.Machine.execReadData s
  | .readAck => Sys2Proof.Machine.execReadAck s
  | .registerOnMessage e => Sys2Proof.Machine.execRegisterOnMessage e s
  | .getRssi => Sys2Proof.Machine.execGetRssi s
  | .update => Sys2Proof.Machine.execUpdate s
  | .joinRequest low body => Sys2Proof.Machine.execJoinRequest low body s
  | .joinAccept low body => Sys2Proof.Machine.execJoinAccept low body s
  | .unconfirmedDataUp low body => Sys2Proof.Machine.execUnconfirmedDataUp low body s
  | .unconfirmedDataDown low body => Sys2Proof.Machine.execUnconfirmedDataDown low body s
  | .confirmedDataUp low body => Sys2Proof.Machine.execConfirmedDataUp low body s
  | .confirmedDataDown low body => Sys2Proof.Machine.execConfirmedDataDown low body s
  | .rfuMtype low body => Sys2Proof.Machine.execRfuMtype low body s
  | .proprietary low body => Sys2Proof.Machine.execProprietary low body s

end Sys2Proof.Machine
end

