-- ==== Sys2Proof/Machine/Step.lean ====
section
/-! DEFINITION. One step of the machine: the next move is taken by its agent (00_scope.md R9; 60_exceptions.md R510,
R522), and where a table word is put so that the next step runs it. -/

namespace Sys2Proof.Machine

/-- CTRL's step: a decoded command or frame is executed, an undecodable record answered with its status (R133). A frame
of no bytes or more than MAX_PHY, which no radio delivers, is taken and is no message (log 19). -/
def ctrlStep (s : State) : Host.Outcome State Fault Refusal :=
  match fetch s with
  | .record rec =>
    match decodeRecord rec with
    | .ok i => exec i s
    | .error r => rejectRecord r s
  | .frame f =>
    match decodeFrame f with
    | .ok i => exec i s
    | .error _ => receiveFrame f s
  | .phase => phaseStep s

/-- One step: a state with a fault record is quiescent (R510); else the next move's agent takes it. -/
def step (s : State) : Host.Outcome State Fault Refusal :=
  match s.faults with
  | _ :: _ => .fault .quiescent
  | [] =>
    match s.nextMove with
    | .host rec => .next (hostOffer rec s.takeMove)
    | .txDone => .next (radioTxDone s.takeMove)
    | .deliver f => .next (radioDeliver f s.takeMove)
    | .tick => .next (clockTick s.takeMove)
    | .ctrl => ctrlStep s.takeMove

/-- The receive phase in which a frame kind can be accepted (R152, R162): JOIN_WAIT for a join-accept, an RX window
otherwise. -/
def receivePhase (f : List Byte) : Phase := if mtypeOf (f.getD 0 0#8) = 1#3 then .joinWait else .cycRx1

/-- The state with a table word where the next step fetches it: a command's record outstanding on the port in IDLE, a
frame in RX_SLOT in its receive phase with the radio initialised (RadioRead needs it, R66); no fault record, and CTRL's
move next (log 6, log 8). -/
def State.withFetchWord (s : State) (nbits w : Nat) : State :=
  let t := { s with faults := [], schedule.agenda := Config.Move.ctrl :: s.schedule.agenda }
  match tableWord nbits w with
  | .inl rec' => { t with port := some rec', sequencer.seq := .idle }
  | .inr f => { t with radio.rxSlot := some f, sequencer.seq := receivePhase f, status.radioReady := true }

end Sys2Proof.Machine
end

