-- ==== Sys2Proof/Safety.lean ====
section
/-! DEFINITION. What the claims are stated in: the invariants of 70_reset_and_hazards.md R602 and of the rules it
names, the end of a run (60_exceptions.md R545), and the fault-free states. Each is written over the register values,
not over the operations that keep it. -/

namespace Sys2Proof.Machine

/-- No fault was raised: the premise of every claim about a run (R510). -/
abbrev State.faultFree (s : State) : Prop := s.faults = []

/-- The window invariant (R57), on numbers: RX2_DELAY >= min(RX1_DELAY + RX1_WINDOW, 2^32 - 1). -/
abbrev State.windowInv (s : State) : Prop :=
  min (s.settings.rx1Delay.toNat + s.settings.rx1Window.toNat) (2 ^ 32 - 1) ≤ s.settings.rx2Delay.toNat

/-- The receive settings follow the transmit settings (R45, R47), and the data rate is one of the region's (R46). -/
abbrev State.rateInv (s : State) : Prop :=
  s.settings.rxCh = Config.rx1ChMap s.settings.txCh ∧ s.settings.rxDr = Config.rx1DrMap s.settings.txDr ∧
    s.settings.txDr.toNat ≤ Config.maxDr

/-- The Class C invariant (44_class_controller.md R356). -/
abbrev State.classInv (s : State) : Prop :=
  s.session.classCur = .c → s.sequencer.seq = .idle ∧ s.status.radioMode = .rxcont .rx2 Config.rx2Dr

/-- Data announced is data present (R602), within the buffer (R59). -/
abbrev State.latchInv (s : State) : Prop :=
  (s.status.rxLatch = true → 1 ≤ s.buffers.rxLen.toNat) ∧ s.buffers.rxLen.toNat ≤ Config.bufCap

/-- Both buffers are in canonical form within BUF_CAP, and TXLEN is within it (R58, R59, R100; log 12). -/
abbrev State.memInv (s : State) : Prop :=
  Memory.wf s.buffers.txBuf = true ∧ Memory.wf s.buffers.rxBuf = true ∧ s.buffers.txLen.toNat ≤ Config.bufCap

/-- FRAME and RX_SLOT hold frames: at most MAX_PHY bytes, and at least one in the slot (R73, R530). -/
abbrev State.frameInv (s : State) : Prop :=
  s.sequencer.frame.length ≤ Config.maxPhy ∧
    ∀ f, s.radio.rxSlot = some f → 1 ≤ f.length ∧ f.length ≤ Config.maxPhy

/-- The command a phase belongs to (R61, R70): JOIN in the join phases, UPLINK or ACK in the cycle's, and never JOIN
in IDLE (43_cycle_engine.md R302). -/
abbrev State.commandInv (s : State) : Prop :=
  match s.sequencer.seq with
  | .idle => s.status.cmd ≠ .join
  | .joinTx | .joinWait => s.status.cmd = .join ∧ s.status.joinState = .joinSent
  | .cycTx | .cycWaitRx1 | .cycRx1 | .cycWaitRx2 | .cycRx2 => s.status.cmd = .uplink ∨ s.status.cmd = .ack

/-- A transmission is pending only while its phase waits for it (R531). -/
abbrev State.pendingInv (s : State) : Prop :=
  s.radio.txPending = true → s.sequencer.seq = .joinTx ∨ s.sequencer.seq = .cycTx

/-- Before a successful INIT the radio was never driven (R66, R511): it is off and nothing was transmitted. -/
abbrev State.readyInv (s : State) : Prop :=
  s.status.radioReady = false →
    s.sequencer.seq = .idle ∧ s.status.radioMode = .off ∧ s.session.classCur = .a ∧ s.radio.rxSlot = none ∧
      s.observed.txLog = []

/-- HOST has no further record to send (R545): none is listed in the agenda, and the free schedule, from the move after
the last listed one on, offers none either (log 4). -/
abbrev State.hostDone (s : State) : Prop :=
  (∀ rec, Config.Move.host rec ∉ s.schedule.agenda) ∧
    ∀ n ≥ s.schedule.moves + s.schedule.agenda.length, ∀ rec, Config.anyMove n ≠ .host rec

/-- A run is over (R545): idle, the last response delivered, no fault, nothing pending, and HOST has no further record
to send. A frame may sit in RX_SLOT. -/
abbrev State.runOver (s : State) : Prop :=
  s.sequencer.seq = .idle ∧ s.port = none ∧ s.faults = [] ∧ s.radio.txPending = false ∧ s.hostDone

/-- `n` steps, stopping at the first fault or refusal: `Host.Core.run` of this machine, over its own state type. -/
def runSteps (n : Nat) (s : State) : Host.Outcome State Fault Refusal :=
  match n with
  | 0 => .next s
  | k + 1 =>
    match step s with
    | .next t => runSteps k t
    | .fault r => .fault r
    | .refused r => .refused r

end Sys2Proof.Machine

namespace Sys2Proof.Claims

open Sys2Proof.Machine

/-- `s` after the response `bytes`: the port is free, the response is the last HOST received, and nothing else changed
(30_encoding.md R135). -/
abbrev answered (bytes : List Byte) (s : State) : State :=
  { s with port := none, observed.hostLog := s.observed.hostLog ++ [.response bytes] }

/-- `s` with one more fault record and nothing else changed (60_exceptions.md R510, R523). -/
abbrev faulted (k : ModelFault) (opcode : Byte) (s : State) : State :=
  { s with faults := s.faults.insert { fault := k, opcode := opcode } }

/-- RX_SLOT after a RadioSetMode: kept or emptied by the radio's draw (60_exceptions.md R530). -/
abbrev slotAfterMode (s : State) : Option (List Byte) :=
  if Config.slotKept s.schedule.draws then s.radio.rxSlot else none

/-- `s` after RadioSetMode(m) by an initialised radio (60_exceptions.md R530, R535). -/
abbrev modeSet (m : RadioMode) (s : State) : State :=
  { s with
    status.radioMode := m
    radio.rxSlot := slotAfterMode s
    observed.modeLog := s.observed.modeLog ++ [m]
    schedule.draws := s.schedule.draws + 1 }

/-- No fault, and CTRL takes the next step. -/
abbrev ctrlNext (s : State) : Prop := s.faultFree ∧ s.nextMove = .ctrl

/-- CTRL takes the next step in IDLE with this record outstanding. -/
abbrev commandNext (s : State) (rec : List Byte) : Prop :=
  ctrlNext s ∧ s.sequencer.seq = .idle ∧ s.port = some rec

/-- A phase in which CTRL takes frames from the radio (60_exceptions.md R520). -/
abbrev receiving (s : State) : Prop :=
  s.sequencer.seq = .joinWait ∨ s.sequencer.seq = .cycRx1 ∨ s.sequencer.seq = .cycRx2

/-- `s` with continuous receive on RX2 armed, or as it is where Class C was armed before (44_class_controller.md R353). -/
abbrev classCArmed (s : State) : State :=
  if s.session.classCur = .c then s else { modeSet (.rxcont .rx2 Config.rx2Dr) s with session.classCur := .c }

/-- A reception window of the cycle is open (43_cycle_engine.md R308, R309). -/
abbrev windowOpen (s : State) : Prop := s.sequencer.seq = .cycRx1 ∨ s.sequencer.seq = .cycRx2

/-- `s` after a frame was taken and found no message: RX_SLOT is empty, FRAME holds it, nothing else changed
(60_exceptions.md R503). -/
abbrev tookNoMessage (f : List Byte) (s : State) : State :=
  { s with radio.rxSlot := none, sequencer.frame := f }

/-- A hexadecimal digit character (30_encoding.md R137). -/
abbrev isHexDigit (c : Byte) : Prop :=
  (0x30#8 ≤ c ∧ c ≤ 0x39#8) ∨ (0x61#8 ≤ c ∧ c ≤ 0x66#8) ∨ (0x41#8 ≤ c ∧ c ≤ 0x46#8)

/-- The saturating sum of two u32 values, as a number (00_scope.md R12). -/
abbrev satSum (a b : U32) : Nat := min (a.toNat + b.toNat) (2 ^ 32 - 1)

/-- The channel a transmission uses: drawn below CH_COUNT in MULTI mode, else TX_CH (45_channel_rate.md R373). -/
abbrev txChannel (s : State) : BitVec 3 :=
  match s.settings.chMode with
  | .multi => BitVec.ofNat 3 (Config.prngDraw s.status.prngState Config.chCountPred).1.val
  | .fixed => s.settings.txCh

/-- The RX1 channel that goes with it (R373). -/
abbrev rxChannel (s : State) : BitVec 3 :=
  match s.settings.chMode with
  | .multi => Config.rx1ChMap (txChannel s)
  | .fixed => s.settings.rxCh

/-- PRNG_STATE after the channel was chosen (R91, R373). -/
abbrev prngAfterChannel (s : State) : U32 :=
  match s.settings.chMode with
  | .multi => (Config.prngDraw s.status.prngState Config.chCountPred).2
  | .fixed => s.status.prngState

/-- `n` CLOCK steps. -/
abbrev ticks (n : Nat) : List Config.Move := List.replicate n Config.Move.tick

end Sys2Proof.Claims
end

