-- ==== Sys2Proof/Certificates/Slice0/Obligations.lean ====
section
/-! DEFINITION. The statements for the provers, from the numbered rules of spec/. An equation `exec i s = .next t` gives the
whole next state, so it says the result, what completes and what stays unchanged. -/

open Sys2Proof Sys2Proof.Machine Sys2Proof.Claims

/-! ### Encodings -/

/-- Words written out from the encodings of R132, R300 and the frames of V21 to V28 (R151 to R157). -/
def Obligations.SampleWordsDecode : Prop :=
  decodeRecord [0x06, 0x32, 0x36, 0x30, 0x31, 0x31, 0x42, 0x44, 0x41] =
      .ok (.setDevaddr [0x32, 0x36, 0x30, 0x31, 0x31, 0x42, 0x44, 0x41]) ∧
  decodeRecord [0x07, 0x34, 0x12] = .ok (.setFcntTx 0x1234) ∧
  decodeRecord [0x12, 0x08] = .ok (.setChannel 8) ∧
  decodeRecord [0x1A, 0xE8, 0x03, 0x00, 0x00] = .ok (.setRx1Delay 1000) ∧
  decodeRecord [0x20, 0x04, 0x03, 0x02, 0x01] = .ok (.init 0x01020304) ∧
  decodeRecord [0x21] = .ok .join ∧
  decodeRecord [0x28, 0x02, 0x00, 0x05, 0x41, 0x42] = .ok (.sendUplink 0 5 [0x41, 0x42]) ∧
  decodeRecord [0x28, 0x03, 0x00, 0x05, 0x41, 0x42] = .error .badLength ∧
  decodeRecord [0x09, 0x00] = .error .badLength ∧
  decodeRecord [0x0B] = .error .badOpcode ∧
  decodeFrame [0x60, 0xDA, 0x1B, 0x01, 0x26, 0x20, 0x00, 0x00, 0xA3, 0xEB, 0x70, 0x13] =
      .ok (.unconfirmedDataDown 0 [0xDA, 0x1B, 0x01, 0x26, 0x20, 0x00, 0x00, 0xA3, 0xEB, 0x70, 0x13])

/-- R131 to R133: the decoder of the command port gives back every well-formed command from its record. -/
def Obligations.CommandDecodesFromItsRecord : Prop :=
  ∀ i : Instr, i.isCommand = true → i.wellFormed = true → decodeRecord (encode i) = .ok i

/-- R151, R152: the decoder gives back every well-formed frame from its bytes. -/
def Obligations.FrameDecodesFromItsBytes : Prop :=
  ∀ i : Instr, i.isCommand = false → i.wellFormed = true → decodeFrame (encode i) = .ok i

/-- R133, R134: a record has one meaning. What decodes is a well-formed command, and the record is its encoding. -/
def Obligations.DecodedRecordIsOneEncoding : Prop :=
  ∀ (rec : List Byte) (i : Instr), decodeRecord rec = .ok i →
    encode i = rec ∧ i.isCommand = true ∧ i.wellFormed = true

/-- R152, R162: every frame the radio can deliver (1 to 255 bytes, R530) is one of the eight kinds, whose encoding it
is. -/
def Obligations.EveryFrameHasOneKind : Prop :=
  ∀ f : List Byte, 1 ≤ f.length → f.length ≤ 255 →
    ∃ i : Instr, decodeFrame f = .ok i ∧ encode i = f ∧ i.isCommand = false ∧ i.wellFormed = true

/-- R133: BAD_OPCODE answers exactly the opcodes that are not in the table of R132; an empty record is BAD_LENGTH. -/
def Obligations.ReservedOpcodesAreBadOpcode : Prop :=
  decodeRecord [] = .error .badLength ∧
  ∀ (op : Byte) (args : List Byte), decodeRecord (op :: args) = .error .badOpcode ↔
    op.toNat ∉ [0x01, 0x02, 0x03, 0x04, 0x05, 0x06, 0x07, 0x08, 0x09, 0x0A, 0x10, 0x11, 0x12, 0x13, 0x14, 0x18, 0x19,
      0x1A, 0x1B, 0x1C, 0x20, 0x21, 0x22, 0x23, 0x28, 0x29, 0x2A, 0x2B, 0x2C, 0x30, 0x3F]

/-! ### The step -/

/-- A step runs the decoded command: with CTRL to move in IDLE and an outstanding record that decodes to `i`, the step
is `exec i` on the state with the move taken off the agenda. -/
def Obligations.StepRunsDecodedCommand : Prop :=
  ∀ (s : State) (rec : List Byte) (i : Instr), commandNext s rec → decodeRecord rec = .ok i →
    step s = exec i s.takeMove

/-- A step runs the received frame: with CTRL to move in a receive phase and a frame in RX_SLOT that decodes to `i`, the
step is `exec i` on the state with the move taken off the agenda. -/
def Obligations.StepRunsReceivedFrame : Prop :=
  ∀ (s : State) (f : List Byte) (i : Instr), ctrlNext s → receiving s → s.radio.rxSlot = some f →
    decodeFrame f = .ok i → step s = exec i s.takeMove

/-- R133, R505: a record that does not decode is answered 0xFF (BAD_OPCODE) or 0xFE (BAD_LENGTH) and changes nothing
else. -/
def Obligations.RejectedRecordOnlyAnswersStatus : Prop :=
  ∀ (s : State) (rec : List Byte) (r : Reject), commandNext s rec → decodeRecord rec = .error r →
    step s = .next (answered [if r = .badOpcode then 0xFF#8 else 0xFE#8] s.takeMove)

/-- R510: a state with FAULTS non-empty is quiescent, no agent has a step. -/
def Obligations.FaultedStateHasNoStep : Prop :=
  ∀ s : State, s.faults ≠ [] → step s = .fault .quiescent

/-- R133, R514: nothing is refused. Every instruction, in every state, and every step of a fault-free state, whatever agent
moves, answers a next state. That state may be the bare fault record, since a raised fault is a next state (log 10, DEDUCED
from R510), and it may be the old state with the move taken, where the agent has no step: R514 says that a controller stuck in
JOIN_TX or CYC_TX has none, and passing such a move over is the model's choice (log 5, DESIGN CHOICE). -/
def Obligations.EveryFaultFreeStepCompletes : Prop :=
  (∀ (i : Instr) (s : State), ∃ t, exec i s = .next t) ∧ (∀ s : State, s.faultFree → ∃ t, step s = .next t)

/-- R114: HOST is held while a command is in progress or outstanding, and its record waits on the port in IDLE. -/
def Obligations.HostIsHeldUntilIdle : Prop :=
  ∀ (s : State) (rec : List Byte), s.faultFree → s.nextMove = .host rec →
    (s.sequencer.seq = .idle ∧ s.port = none → step s = .next { s.takeMove with port := some rec }) ∧
    (s.sequencer.seq ≠ .idle ∨ s.port ≠ none → step s = .next s.takeMove)

/-- R72, R530, R531: a CLOCK step adds one millisecond in the five wait phases, saturating at 2^32 - 1. The radio delivers
frames of 1 to 255 bytes in continuous receive only, over an unread one, and completes a transmission only while one is
pending. Where an agent has no step nothing changes. -/
def Obligations.ClockAndRadioMoveWhereEnabled : Prop :=
  ∀ s : State, s.faultFree →
    (s.nextMove = .tick →
      (s.sequencer.seq ∈ [Phase.joinWait, .cycWaitRx1, .cycRx1, .cycWaitRx2, .cycRx2] →
        step s = .next
          { s.takeMove with sequencer.elapsed := BitVec.ofNat 32 (min (s.sequencer.elapsed.toNat + 1) (2 ^ 32 - 1)) }) ∧
      (s.sequencer.seq ∈ [Phase.idle, .joinTx, .cycTx] → step s = .next s.takeMove)) ∧
    (∀ f : List Byte, s.nextMove = .deliver f →
      ((∃ ch dr, s.status.radioMode = .rxcont ch dr) → 1 ≤ f.length → f.length ≤ 255 →
        step s = .next { s.takeMove with radio.rxSlot := some f }) ∧
      ((∀ ch dr, s.status.radioMode ≠ .rxcont ch dr) ∨ f.length = 0 ∨ 255 < f.length → step s = .next s.takeMove)) ∧
    (s.nextMove = .txDone →
      (s.radio.txPending = true → step s = .next { s.takeMove with radio.txPending := false }) ∧
      (s.radio.txPending = false → step s = .next s.takeMove))

/-! ### Session store -/

/-- R202 to R208: each identity or key setter writes its register with the decoded text, zeroes both counters, drops
the pending command and answers; nothing else of the spec's state changes. (The count of draws is the model's own, log 1.) -/
def Obligations.IdentitySettersWriteAndResetSession : Prop :=
  ∀ (text : List Byte) (s : State),
    let k := s.schedule.draws
    let cleared (n : Nat) (t : State) : State := answered [0x00#8]
      { t with session.fcntTx := 0#16, session.fcntRx := 0#16, status.cmd := .noCommand, schedule.draws := k + n }
    exec (.setDeveui text) s = .next (cleared 8 { s with identity.devEui := hexDecode text 8 k }) ∧
    exec (.setAppeui text) s = .next (cleared 8 { s with identity.appEui := hexDecode text 8 k }) ∧
    exec (.setAppkey text) s = .next (cleared 16 { s with identity.appKey := hexDecode text 16 k }) ∧
    exec (.setNwkskey text) s = .next (cleared 16 { s with session.nwkSKey := hexDecode text 16 k }) ∧
    exec (.setAppskey text) s = .next (cleared 16 { s with session.appSKey := hexDecode text 16 k }) ∧
    exec (.setDevaddr text) s = .next (cleared 4 { s with session.devAddr := hexDecode text 4 k })

/-- R201: for every text of 2n valid digits, encoding the decoded bytes reproduces it in upper case. -/
def Obligations.HexTextRoundTrips : Prop :=
  ∀ (n k : Nat) (text : List Byte), text.length = 2 * n → (∀ c ∈ text, isHexDigit c) →
    hexEncode (hexDecode text n k).toList = text.map upperCase

/-- R200: a valid pair of digits gives 16 times the first plus the second, digits and letters of either case; a malformed
pair gives the free byte of its own index, which no other byte depends on. -/
def Obligations.HexPairsDecodeOneByOne : Prop :=
  ∀ (n k i : Nat) (text : List Byte) (h : i < n) (h2 : 2 * i + 1 < text.length),
    let c1 := text[2 * i]
    let c2 := text[2 * i + 1]
    (∀ hi lo : Byte, hi < 16#8 → lo < 16#8 → upperCase c1 = hexChar hi → upperCase c2 = hexChar lo →
      (hexDecode text n k)[i].toNat = 16 * hi.toNat + lo.toNat) ∧
    (¬ isHexDigit c1 ∨ ¬ isHexDigit c2 → (hexDecode text n k)[i] = Config.hexBad (k + i))

/-- R209 to R212: the counter accessors store and report the whole 16-bit counters, little-endian, and the getters have
no side effect. -/
def Obligations.CounterAccessorsStoreAndReport : Prop :=
  ∀ (v : U16) (s : State),
    exec (.setFcntTx v) s = .next (answered [0x00#8] { s with session.fcntTx := v }) ∧
    exec (.setFcntRx v) s = .next (answered [0x00#8] { s with session.fcntRx := v }) ∧
    exec .getFcntTx s = .next
      (answered [0x00#8, s.session.fcntTx.extractLsb' 0 8, s.session.fcntTx.extractLsb' 8 8] s) ∧
    exec .getFcntRx s = .next
      (answered [0x00#8, s.session.fcntRx.extractLsb' 0 8, s.session.fcntRx.extractLsb' 8 8] s)

/-! ### Channel, rate, power -/

/-- R371: 0 to 7 fix a channel and its RX1 channel in every region, 8 selects hopping, 9 and above change nothing. -/
def Obligations.SetChannelByRange : Prop :=
  ∀ (c : Byte) (s : State),
    (c.toNat ≤ 7 → exec (.setChannel c) s = .next (answered [0x00#8]
      { s with
        settings.chMode := .fixed
        settings.txCh := BitVec.ofNat 3 c.toNat
        settings.rxCh := Config.rx1ChMap (BitVec.ofNat 3 c.toNat) })) ∧
    (c.toNat = 8 → exec (.setChannel c) s = .next (answered [0x00#8] { s with settings.chMode := .multi })) ∧
    (9 ≤ c.toNat → exec (.setChannel c) s = .next (answered [0x00#8] s))

/-- R81, R375, R376: a rate up to the region's maximum (4 for 915 MHz regions, 6 otherwise) is stored with its RX1 rate, a
higher one changes no register. -/
def Obligations.SetDatarateWithinRegion : Prop :=
  ∀ (d : Byte) (s : State),
    (d.toNat ≤ (if Config.is915 then 4 else 6) → exec (.setDatarate d) s = .next (answered [0x00#8]
      { s with
        settings.txDr := BitVec.ofNat 3 d.toNat
        settings.rxDr := Config.rx1DrMap (BitVec.ofNat 3 d.toNat) })) ∧
    ((if Config.is915 then 4 else 6) < d.toNat → exec (.setDatarate d) s = .next (answered [0x00#8] s))

/-- R377 to R379, R407: any power is stored, any nonzero operand registers the callback and 0 unregisters it; the getters
report TX_CH and TX_DR and have no side effect. -/
def Obligations.PowerAndCallbackStoredSettingsReported : Prop :=
  ∀ (p : Byte) (s : State),
    exec (.setTxpower p) s = .next (answered [0x00#8] { s with settings.txPower := p }) ∧
    exec (.registerOnMessage p) s = .next (answered [0x00#8] { s with status.cbEn := decide (p.toNat ≠ 0) }) ∧
    exec .getChannel s = .next (answered [0x00#8, s.settings.txCh.setWidth 8] s) ∧
    exec .getDatarate s = .next (answered [0x00#8, s.settings.txDr.setWidth 8] s)

/-- R372 to R374: in MULTI mode JOIN, and UPDATE with an uplink or an ack pending, transmit one frame on UP(i), i the one
draw below CH_COUNT, which is 3 or 8. TX_CH and RX_CH follow the draw, CH_MODE stays MULTI, and no fault record is added,
whatever the random source and the region. -/
def Obligations.HoppedChannelIsDefined : Prop :=
  ∀ s : State, s.settings.chMode = .multi → s.status.radioReady = true →
    let i : BitVec 3 := BitVec.ofNat 3 (Config.prngDraw s.status.prngState Config.chCountPred).1.val
    let hopped (cmd : Instr) : Prop := ∃ (t : State) (e : TxEntry),
      exec cmd s = .next t ∧ t.observed.txLog = s.observed.txLog ++ [e] ∧ e.ch = .up i ∧ t.settings.txCh = i ∧
        t.settings.rxCh = Config.rx1ChMap i ∧ t.settings.chMode = .multi ∧ t.faults = s.faults
    i.toNat < Config.chCount ∧ (Config.chCount = 3 ∨ Config.chCount = 8) ∧
    hopped .join ∧
    (s.status.cmd = .ack ∨ (s.status.cmd = .uplink ∧ s.buffers.txLen.toNat ≤ Config.bufCap) → hopped .update)

/-! ### Receive windows -/

/-- R320 to R323: the window and delay setters store their operand, and RX2_DELAY becomes the larger of what it was (or
the operand) and RX1's close time, sums saturating. -/
def Obligations.WindowSettersClampRx2 : Prop :=
  ∀ (v : U32) (s : State),
    let d1 := s.settings.rx1Delay
    let w1 := s.settings.rx1Window
    let d2 := s.settings.rx2Delay
    exec (.setRx1Window v) s = .next (answered [0x00#8]
      { s with settings.rx1Window := v, settings.rx2Delay := BitVec.ofNat 32 (max d2.toNat (satSum d1 v)) }) ∧
    exec (.setRx2Window v) s = .next (answered [0x00#8] { s with settings.rx2Window := v }) ∧
    exec (.setRx1Delay v) s = .next (answered [0x00#8]
      { s with settings.rx1Delay := v, settings.rx2Delay := BitVec.ofNat 32 (max d2.toNat (satSum v w1)) }) ∧
    exec (.setRx2Delay v) s = .next (answered [0x00#8]
      { s with settings.rx2Delay := BitVec.ofNat 32 (max v.toNat (satSum d1 w1)) })

/-- R57: every step keeps RX2_DELAY at or above RX1_DELAY + RX1_WINDOW, saturating. -/
def Obligations.WindowInvariantKeptByEveryStep : Prop :=
  ∀ s t : State, s.windowInv → step s = .next t → t.windowInv

/-! ### Class, lifecycle, data path -/

/-- R350: 0 asks for Class A, 2 for Class C, any other code changes nothing; CLASS_CUR and the radio stay. -/
def Obligations.SetDeviceClassByCode : Prop :=
  ∀ (c : Byte) (s : State),
    (c.toNat = 0 → exec (.setDeviceClass c) s = .next (answered [0x00#8] { s with settings.classReq := .a })) ∧
    (c.toNat = 2 → exec (.setDeviceClass c) s = .next (answered [0x00#8] { s with settings.classReq := .c })) ∧
    (c.toNat ≠ 0 ∧ c.toNat ≠ 2 → exec (.setDeviceClass c) s = .next (answered [0x00#8] s))

/-- R400, R501: INIT completes by the radio's answer. True sets RADIO_READY, seeds the PRNG, commands STANDBY and leaves
Class C; false changes no register. (The draw counts are the model's own, log 2.) -/
def Obligations.InitFollowsTheRadioAnswer : Prop :=
  ∀ (seed : U32) (s : State),
    let s1 : State := { s with schedule.draws := s.schedule.draws + 1 }
    exec (.init seed) s = .next
      (if Config.radioInitAnswer s.schedule.draws then answered [0x00#8, 0x01#8]
        { modeSet .standby s1 with
          status.radioMode := .standby
          status.radioReady := true
          status.prngState := Config.prngSeed seed
          session.classCur := .a }
      else answered [0x00#8, 0x00#8] s1)

/-- R402, R403: with an initialised radio SLEEP and WAKEUP command the radio's sleep and standby modes and suspend Class C;
every register of the controller is retained. (Here and below the count of draws that modeSet advances is the model's own,
log 2.) -/
def Obligations.SleepAndWakeupCommandTheRadio : Prop :=
  ∀ s : State, s.status.radioReady = true →
    exec .sleep s = .next (answered [0x00#8] { modeSet .sleep s with session.classCur := .a }) ∧
    exec .wakeup s = .next (answered [0x00#8] { modeSet .standby s with session.classCur := .a })

/-- R409: with an initialised radio GET_RSSI answers the calibrated value of the raw draw, little-endian, and changes no
register. (The count of draws is the model's own, log 2.) -/
def Obligations.RssiIsCalibratedAndReported : Prop :=
  ∀ s : State, s.status.radioReady = true →
    let v := Config.rssiCal (Config.rssiRaw s.schedule.draws)
    exec .getRssi s = .next (answered [0x00#8, v.extractLsb' 0 8, v.extractLsb' 8 8]
      { s with schedule.draws := s.schedule.draws + 1 })

/-- R510, R511: before an INIT succeeded each command that drives the radio adds the record FAULT_RADIO_NOT_READY of its
first primitive and changes nothing else; no response is sent. -/
def Obligations.RadioCommandsBeforeInitFault : Prop :=
  ∀ s : State, s.status.radioReady = false →
    exec .sleep s = .next (faulted (.radioNotReady .setMode) 0x22#8 s) ∧
    exec .wakeup s = .next (faulted (.radioNotReady .setMode) 0x23#8 s) ∧
    exec .getRssi s = .next (faulted (.radioNotReady .rssi) 0x30#8 s) ∧
    exec .join s = .next (faulted (.radioNotReady .setMode) 0x21#8 s) ∧
    (s.status.cmd = .ack ∨ (s.status.cmd = .uplink ∧ s.buffers.txLen.toNat ≤ Config.bufCap) →
      exec .update s = .next (faulted (.radioNotReady .setMode) 0x3F#8 s)) ∧
    (s.status.cmd = .noCommand → s.settings.classReq = .c →
      exec .update s = .next (faulted
        (.radioNotReady (if s.session.classCur = .a then .setMode else .available)) 0x3F#8 s))

/-- R510, R512, R513: on a fixed channel a JOIN or a cycle transmits one frame on UP(TX_CH) where the region defines the
channel; where it does not, it adds the record FAULT_CHANNEL_UNDEFINED with the index and changes nothing else, so nothing is
transmitted. -/
def Obligations.UndefinedChannelFaultsBeforeTransmit : Prop :=
  ∀ s : State, s.status.radioReady = true → s.settings.chMode = .fixed →
    let i := s.settings.txCh
    (∃ (t : State) (e : TxEntry), t.observed.txLog = s.observed.txLog ++ [e] ∧ e.ch = .up i ∧
      exec .join s = .next (if Config.chValid i then t else faulted (.channelUndefined i) 0x21#8 s)) ∧
    (s.status.cmd = .ack ∨ (s.status.cmd = .uplink ∧ s.buffers.txLen.toNat ≤ Config.bufCap) →
      ∃ (t : State) (e : TxEntry), t.observed.txLog = s.observed.txLog ++ [e] ∧ e.ch = .up i ∧
        exec .update s = .next (if Config.chValid i then t else faulted (.channelUndefined i) 0x3F#8 s))

/-- R405: READ_DATA returns the RXLEN bytes of RXBUF and consumes the latch, keeping the buffer; with nothing pending it
returns 0. -/
def Obligations.ReadDataReturnsAndConsumes : Prop :=
  ∀ s : State,
    (s.status.rxLatch = true → s.buffers.rxLen.toNat ≤ Config.bufCap →
      exec .readData s = .next (answered
        (0x00#8 :: s.buffers.rxLen :: (List.range s.buffers.rxLen.toNat).map (Memory.read s.buffers.rxBuf))
        { s with status.rxLatch := false })) ∧
    (s.status.rxLatch = false → exec .readData s = .next (answered [0x00#8, 0x00#8] s))

/-- R406: READ_ACK answers the latch and consumes it, so the next one answers false. -/
def Obligations.ReadAckIsTrueOnce : Prop :=
  ∀ s : State,
    exec .readAck s = .next (answered [0x00#8, if s.status.ackLatch then 0x01#8 else 0x00#8]
      { s with status.ackLatch := false }) ∧
    ∀ t, exec .readAck s = .next t → exec .readAck t = .next (answered [0x00#8, 0x00#8] t)

/-- R300, R301: a payload that fits is put at the start of TXBUF, every byte behind it stays as it was, and CMD, TXLEN,
CONFIRM and MPORT are written; a payload longer than BUF_CAP is silently ignored; SEND_ACK replaces the pending command.
Nothing else changes. -/
def Obligations.SendCommandsQueueOneSlot : Prop :=
  ∀ s : State,
    (∀ (confirm port : Byte) (payload : List Byte), payload.length ≤ Config.bufCap →
      ∃ m : Memory,
        exec (.sendUplink confirm port payload) s = .next (answered [0x00#8]
          { s with
            buffers.txBuf := m
            buffers.txLen := BitVec.ofNat 8 payload.length
            settings.confirm := decide (confirm.toNat ≠ 0)
            settings.mport := port
            status.cmd := .uplink }) ∧
        (∀ a < payload.length, Memory.read m a = payload.getD a 0#8) ∧
        (∀ a ≥ payload.length, Memory.read m a = Memory.read s.buffers.txBuf a)) ∧
    (∀ (confirm port : Byte) (payload : List Byte), Config.bufCap < payload.length →
      exec (.sendUplink confirm port payload) s = .next (answered [0x00#8] s)) ∧
    exec .sendAck s = .next (answered [0x00#8] { s with status.cmd := .ack })

/-! ### The join -/

/-- R153, R232, R271, R272: JOIN draws the channel (MULTI) and a fresh DevNonce, transmits the 23-byte join-request on the
channel and stops in JOIN_TX; the counters, the keys and the buffers stay, and no response is sent. (Count of draws: log 2.
List of modes: log 16.) -/
def Obligations.JoinTransmitsTheJoinRequest : Prop :=
  ∀ s : State, s.status.radioReady = true → Config.chValid (txChannel s) = true →
    let d0 := Config.prngDraw (prngAfterChannel s) 255
    let d1 := Config.prngDraw d0.2 255
    let nonce : Bytes 2 := #v[BitVec.ofNat 8 d0.1.val, BitVec.ofNat 8 d1.1.val]
    let msg : List Byte :=
      [0x00#8] ++ s.identity.appEui.toList.reverse ++ s.identity.devEui.toList.reverse ++ nonce.toList
    let frame : List Byte := msg ++ (Config.micJoin s.identity.appKey msg).toList
    frame.length = 23 ∧
    exec .join s = .next
      { s with
        joinMat.devNonce := nonce
        session.classCur := .a
        settings.txCh := txChannel s
        settings.rxCh := rxChannel s
        buffers.msgMeta := { dir := .up, mhdr := 0x00#8, fctrl := 0#8, fport := 0#8, fportPresent := false }
        status.cmd := .join
        status.joinState := .joinSent
        status.radioMode := .tx
        status.prngState := d1.2
        sequencer.seq := .joinTx
        sequencer.frame := frame
        radio.rxSlot := slotAfterMode s
        radio.txPending := true
        observed.txLog := s.observed.txLog ++
          [{ frame := frame, ch := .up (txChannel s), dr := s.settings.txDr.setWidth 8, pwr := s.settings.txPower }]
        observed.modeLog := s.observed.modeLog ++ [.standby, .tx]
        schedule.draws := s.schedule.draws + 1 }

/-- R273, R275, R277, R502: CTRL waits in JOIN_TX while the transmission is pending; at TX_DONE the budget of 6000 ms
starts and the radio listens on the RX1 channel and rate. With no frame the join ends false once ELAPSED reaches T_END,
writing no session register, and CTRL has no step before that. -/
def Obligations.JoinPhasesFollowTheTimer : Prop :=
  ∀ s : State, ctrlNext s → s.status.radioReady = true →
    (s.sequencer.seq = .joinTx → s.radio.txPending = true → step s = .next s.takeMove) ∧
    (s.sequencer.seq = .joinTx → s.radio.txPending = false → step s = .next
      { modeSet (.rxcont (.down s.settings.rxCh) s.settings.rxDr) s.takeMove with
        sequencer.elapsed := 0#32
        sequencer.tEnd := 6000#32
        sequencer.seq := .joinWait }) ∧
    (s.sequencer.seq = .joinWait → s.radio.rxSlot = none → s.sequencer.elapsed.toNat < s.sequencer.tEnd.toNat →
      step s = .next s.takeMove) ∧
    (s.sequencer.seq = .joinWait → s.radio.rxSlot = none → s.sequencer.tEnd.toNat ≤ s.sequencer.elapsed.toNat →
      step s = .next (answered [0x00#8, 0x00#8]
        { modeSet .standby s.takeMove with
          status.radioMode := .standby
          status.joinState := .joinTimeout
          status.cmd := .noCommand
          sequencer.seq := .idle }))

/-- R154, R235, R236, R274, R276, R277, R503: in JOIN_WAIT a join-accept of 17 or 33 bytes whose MIC matches commits the
whole session in one step and ends the join with true; DLSettings, RxDelay and CFList change nothing. One whose MIC does not
match is no message: the wait goes on. (Count of draws: log 2.) -/
def Obligations.JoinAcceptCommitsTheSessionIfItsMicMatches : Prop :=
  ∀ (low : BitVec 5) (body : List Byte) (s : State),
    s.sequencer.seq = .joinWait → s.status.radioReady = true → body.length = 16 ∨ body.length = 32 →
    let p := (Config.jaDecrypt s.identity.appKey (toBytes body)).toList
    let n := body.length - 4
    ∃ (an ni : Bytes 3) (da : Bytes 4),
      an.toList = p.take 3 ∧ ni.toList = (p.drop 3).take 3 ∧ da.toList = ((p.drop 6).take 4).reverse ∧
      exec (.joinAccept low body) s = .next
        (if p.drop n = (Config.micJoin s.identity.appKey (mhdrOf 1 low :: p.take n)).toList then
          answered [0x00#8, 0x01#8]
            { s with
              joinMat.appNonce := an
              joinMat.netId := ni
              session.devAddr := da
              session.nwkSKey := Config.deriveKey s.identity.appKey 0x01#8 an ni s.joinMat.devNonce
              session.appSKey := Config.deriveKey s.identity.appKey 0x02#8 an ni s.joinMat.devNonce
              session.fcntTx := 0#16
              session.fcntRx := 0#16
              status.joinState := .joinAccepted
              status.cmd := .noCommand
              status.radioMode := .standby
              sequencer.seq := .idle
              sequencer.frame := mhdrOf 1 low :: body
              radio.rxSlot := none
              observed.modeLog := s.observed.modeLog ++ [.standby]
              schedule.draws := s.schedule.draws + 1 }
        else tookNoMessage (mhdrOf 1 low :: body) s)

/-- R235, R274, R503: in JOIN_WAIT a frame of any other kind and a join-accept of another length are no message: the wait
goes on and nothing but RX_SLOT and FRAME changes. -/
def Obligations.OtherFramesLeaveTheJoinWaitOpen : Prop :=
  ∀ (low : BitVec 5) (body : List Byte) (s : State), s.sequencer.seq = .joinWait → s.status.radioReady = true →
    (∀ i ∈ [Instr.joinRequest low body, .unconfirmedDataUp low body, .unconfirmedDataDown low body,
        .confirmedDataUp low body, .confirmedDataDown low body, .rfuMtype low body, .proprietary low body],
      exec i s = .next (tookNoMessage (encode i) s)) ∧
    (body.length ≠ 16 ∧ body.length ≠ 32 →
      exec (.joinAccept low body) s = .next (tookNoMessage (mhdrOf 1 low :: body) s))

/-- R278: with no frame delivered a join wait ends after as many CLOCK steps as are left to its deadline: false is
answered and the session is untouched. -/
def Obligations.JoinWaitEndsByTheClock : Prop :=
  ∀ (s : State) (rest : List Config.Move), s.faultFree → s.sequencer.seq = .joinWait → s.radio.rxSlot = none →
    s.status.radioReady = true → s.sequencer.elapsed.toNat ≤ s.sequencer.tEnd.toNat →
    let left := s.sequencer.tEnd.toNat - s.sequencer.elapsed.toNat
    s.schedule.agenda = ticks left ++ Config.Move.ctrl :: rest →
    ∃ t : State, runSteps (left + 1) s = .next t ∧ t.sequencer.seq = .idle ∧
      t.status.joinState = .joinTimeout ∧ t.status.cmd = .noCommand ∧ t.session = s.session ∧
      t.joinMat = s.joinMat ∧ t.observed.hostLog = s.observed.hostLog ++ [.response [0x00#8, 0x00#8]] ∧
      t.schedule.agenda = rest

/-- R109, R276: outside IDLE the join material and the session's keys and address never change in part. A step leaves
them all, or it is the commit of a join-accept that DECODE_JOIN_ACCEPT accepted, which writes them all. -/
def Obligations.SessionCommitIsAllOrNothing : Prop :=
  ∀ s t : State, step s = .next t → s.sequencer.seq ≠ .idle →
    (t.joinMat = s.joinMat ∧ t.session.devAddr = s.session.devAddr ∧ t.session.nwkSKey = s.session.nwkSKey ∧
      t.session.appSKey = s.session.appSKey) ∨
    (∃ f r, s.sequencer.seq = .joinWait ∧ s.radio.rxSlot = some f ∧ decodeJoinAccept s f = some r ∧
      t.joinMat = { s.joinMat with appNonce := r.appNonce, netId := r.netId } ∧ t.session.devAddr = r.devAddr ∧
      t.session.nwkSKey = Config.deriveKey s.identity.appKey 0x01#8 r.appNonce r.netId s.joinMat.devNonce ∧
      t.session.appSKey = Config.deriveKey s.identity.appKey 0x02#8 r.appNonce r.netId s.joinMat.devNonce ∧
      t.session.fcntTx = 0#16 ∧ t.session.fcntRx = 0#16 ∧ t.status.joinState = .joinAccepted)

/-! ### The cycle -/

/-- R156 to R158, R230 to R233, R304, R305: UPDATE with an uplink pending transmits the data-up frame built from TXBUF,
CONFIRM, MPORT and FCNT_TX, and FCNT_TX advances modulo 2^16 in the same step. (Count of draws: log 2. List of modes: log
16.) -/
def Obligations.UpdateTransmitsThePendingUplink : Prop :=
  ∀ s : State, s.status.cmd = .uplink → s.status.radioReady = true → Config.chValid (txChannel s) = true →
    s.buffers.txLen.toNat ≤ Config.bufCap →
    let payload := (List.range s.buffers.txLen.toNat).map (Memory.read s.buffers.txBuf)
    let key := if s.settings.mport = 0#8 then s.session.nwkSKey else s.session.appSKey
    let c : U32 := s.session.fcntTx.setWidth 32
    let mhdr := if s.settings.confirm then 0x80#8 else 0x40#8
    let msg : List Byte := [mhdr] ++ s.session.devAddr.toList.reverse ++ [0x00#8] ++
      [s.session.fcntTx.extractLsb' 0 8, s.session.fcntTx.extractLsb' 8 8] ++ [s.settings.mport] ++
      (Config.cryptPayload key 0#1 s.session.devAddr c (toBytes payload)).toList
    let frame : List Byte := msg ++ (Config.micData s.session.nwkSKey 0#1 s.session.devAddr c msg).toList
    frame.length = 13 + s.buffers.txLen.toNat ∧
    exec .update s = .next
      { s with
        session.classCur := .a
        session.fcntTx := BitVec.ofNat 16 (s.session.fcntTx.toNat + 1)
        settings.txCh := txChannel s
        settings.rxCh := rxChannel s
        buffers.msgMeta := { dir := .up, mhdr := mhdr, fctrl := 0#8, fport := s.settings.mport, fportPresent := true }
        status.radioMode := .tx
        status.prngState := prngAfterChannel s
        status.fcntWrapped := s.status.fcntWrapped || decide (s.session.fcntTx.toNat = 0xFFFF)
        sequencer.seq := .cycTx
        sequencer.frame := frame
        radio.rxSlot := slotAfterMode s
        radio.txPending := true
        observed.txLog := s.observed.txLog ++
          [{ frame := frame, ch := .up (txChannel s), dr := s.settings.txDr.setWidth 8, pwr := s.settings.txPower }]
        observed.modeLog := s.observed.modeLog ++ [.standby, .tx]
        schedule.draws := s.schedule.draws + 1 }

/-- R158, R233, R304, R305: UPDATE with an ack pending transmits the 12-byte unconfirmed frame with FCtrl ACK, no FPort and
no payload, whatever CONFIRM and TXBUF hold. (Count of draws: log 2. List of modes: log 16.) -/
def Obligations.UpdateTransmitsThePendingAck : Prop :=
  ∀ s : State, s.status.cmd = .ack → s.status.radioReady = true → Config.chValid (txChannel s) = true →
    let c : U32 := s.session.fcntTx.setWidth 32
    let msg : List Byte := [0x40#8] ++ s.session.devAddr.toList.reverse ++ [0x20#8] ++
      [s.session.fcntTx.extractLsb' 0 8, s.session.fcntTx.extractLsb' 8 8]
    let frame : List Byte := msg ++ (Config.micData s.session.nwkSKey 0#1 s.session.devAddr c msg).toList
    frame.length = 12 ∧
    exec .update s = .next
      { s with
        session.classCur := .a
        session.fcntTx := BitVec.ofNat 16 (s.session.fcntTx.toNat + 1)
        settings.txCh := txChannel s
        settings.rxCh := rxChannel s
        buffers.msgMeta := { dir := .up, mhdr := 0x40#8, fctrl := 0x20#8, fport := 0#8, fportPresent := false }
        status.radioMode := .tx
        status.prngState := prngAfterChannel s
        status.fcntWrapped := s.status.fcntWrapped || decide (s.session.fcntTx.toNat = 0xFFFF)
        sequencer.seq := .cycTx
        sequencer.frame := frame
        radio.rxSlot := slotAfterMode s
        radio.txPending := true
        observed.txLog := s.observed.txLog ++
          [{ frame := frame, ch := .up (txChannel s), dr := s.settings.txDr.setWidth 8, pwr := s.settings.txPower }]
        observed.modeLog := s.observed.modeLog ++ [.standby, .tx]
        schedule.draws := s.schedule.draws + 1 }

/-- R306 to R309, R311: the phases of a cycle move on at TX_DONE, at RX1_DELAY, at RX1's close time, at RX2_DELAY, at RX2's
close time and no earlier; in the two open windows this is said where no frame waits, in the other three phases a frame in
RX_SLOT holds nothing up (R520). Each opening sets T_END to the window's close time. At the end CMD is cleared, the radio goes
to standby, or to continuous receive on RX2 in Class C, and UPDATE is answered. -/
def Obligations.CyclePhasesFollowTheTimer : Prop :=
  ∀ s : State, ctrlNext s → s.status.radioReady = true →
    let x := s.sequencer.elapsed.toNat
    (s.sequencer.seq = .cycTx → (s.radio.txPending = true → step s = .next s.takeMove) ∧
      (s.radio.txPending = false → step s = .next
        { s.takeMove with
          status.radioMode := .standby, sequencer.elapsed := 0#32, sequencer.seq := .cycWaitRx1 })) ∧
    (s.sequencer.seq = .cycWaitRx1 → (x < s.settings.rx1Delay.toNat → step s = .next s.takeMove) ∧
      (s.settings.rx1Delay.toNat ≤ x → step s = .next
        { modeSet (.rxcont (.down s.settings.rxCh) s.settings.rxDr) s.takeMove with
          sequencer.tEnd := BitVec.ofNat 32 (satSum s.settings.rx1Delay s.settings.rx1Window)
          sequencer.seq := .cycRx1 })) ∧
    (s.sequencer.seq = .cycRx1 → s.radio.rxSlot = none → (x < s.sequencer.tEnd.toNat → step s = .next s.takeMove) ∧
      (s.sequencer.tEnd.toNat ≤ x → step s = .next
        { modeSet .standby s.takeMove with sequencer.seq := .cycWaitRx2 })) ∧
    (s.sequencer.seq = .cycWaitRx2 → (x < s.settings.rx2Delay.toNat → step s = .next s.takeMove) ∧
      (s.settings.rx2Delay.toNat ≤ x → step s = .next
        { modeSet (.rxcont .rx2 Config.rx2Dr) s.takeMove with
          sequencer.tEnd := BitVec.ofNat 32 (satSum s.settings.rx2Delay s.settings.rx2Window)
          sequencer.seq := .cycRx2 })) ∧
    (s.sequencer.seq = .cycRx2 → s.radio.rxSlot = none → (x < s.sequencer.tEnd.toNat → step s = .next s.takeMove) ∧
      (s.sequencer.tEnd.toNat ≤ x → s.settings.classReq = .a → step s = .next (answered [0x00#8]
        { modeSet .standby s.takeMove with
          status.radioMode := .standby, status.cmd := .noCommand, sequencer.seq := .idle })) ∧
      (s.sequencer.tEnd.toNat ≤ x → s.settings.classReq = .c → step s = .next (answered [0x00#8]
        { modeSet (.rxcont .rx2 Config.rx2Dr) s.takeMove with
          status.radioMode := .rxcont .rx2 Config.rx2Dr, status.cmd := .noCommand, session.classCur := .c
          sequencer.seq := .idle })))

/-- R312, R313: a cycle that no frame answers, of a device that wants Class A. From transmit end RX1 opens at RX1_DELAY, closes at its saturated close
time, RX2 opens at RX2_DELAY and closes at its own, after sat32(RX2_DELAY + RX2_WINDOW) CLOCK steps in all; the latches,
the buffers and the session stay. -/
def Obligations.UnansweredCycleTimeline : Prop :=
  ∀ (s : State) (rest : List Config.Move), s.faultFree → s.windowInv → s.sequencer.seq = .cycWaitRx1 →
    s.sequencer.elapsed = 0#32 → s.radio.rxSlot = none → s.status.radioReady = true → s.settings.classReq = .a →
    let d1 := s.settings.rx1Delay.toNat
    let c1 := satSum s.settings.rx1Delay s.settings.rx1Window
    let d2 := s.settings.rx2Delay.toNat
    let c2 := satSum s.settings.rx2Delay s.settings.rx2Window
    s.schedule.agenda = ticks d1 ++ Config.Move.ctrl :: (ticks (c1 - d1) ++ Config.Move.ctrl ::
      (ticks (d2 - c1) ++ Config.Move.ctrl :: (ticks (c2 - d2) ++ Config.Move.ctrl :: rest))) →
    ∃ t : State, runSteps (c2 + 4) s = .next t ∧ t.sequencer.seq = .idle ∧
      t.status.cmd = .noCommand ∧ t.session = s.session ∧ t.settings = s.settings ∧ t.buffers = s.buffers ∧
      t.status.ackLatch = s.status.ackLatch ∧ t.status.rxLatch = s.status.rxLatch ∧
      t.observed.hostLog = s.observed.hostLog ++ [.response [0x00#8]] ∧
      t.observed.modeLog = s.observed.modeLog ++
        [.rxcont (.down s.settings.rxCh) s.settings.rxDr, .standby, .rxcont .rx2 Config.rx2Dr, .standby] ∧
      t.schedule.agenda = rest

/-! ### Downlinks -/

/-- R156, R157, R159, R230, R231, R237: a data-down frame for this device, with its MIC under NWKSKEY, any FOpts and a
payload that fits, decodes to its fields, with and without FPort. -/
def Obligations.DataDownFrameDecodes : Prop :=
  ∀ (s : State) (mhdr fctrl : Byte) (c : U16) (fopts : List Byte),
    mtypeOf mhdr = 3#3 ∨ mtypeOf mhdr = 5#3 → fopts.length = (fctrl &&& 0x0F#8).toNat →
    let mic (msg : List Byte) : List Byte :=
      (Config.micData s.session.nwkSKey 1#1 s.session.devAddr (c.setWidth 32) msg).toList
    let head : List Byte := [mhdr] ++ s.session.devAddr.toList.reverse ++ [fctrl] ++ le16 c ++ fopts
    decodeDataDown s (head ++ mic head) = some
      { mhdr := mhdr, confirmed := mtypeOf mhdr = 5#3, fctrl := fctrl, fcnt := c, fport := 0#8
        fportPresent := false, payload := [] } ∧
    ∀ (port : Byte) (data : List Byte), data.length ≤ Config.bufCap →
      decodeDataDown s (head ++ port :: data ++ mic (head ++ port :: data)) = some
        { mhdr := mhdr, confirmed := mtypeOf mhdr = 5#3, fctrl := fctrl, fcnt := c, fport := port
          fportPresent := true
          payload := (Config.cryptPayload (if port = 0#8 then s.session.nwkSKey else s.session.appSKey) 1#1
            s.session.devAddr (c.setWidth 32) (toBytes data)).toList }

/-- R237: nothing else is accepted, and what is returned is what the frame holds. An accepted frame is a data-down of either
kind with room for its FOpts before the MIC, carries this device's address and the MIC of its bytes under NWKSKEY, and its
payload fits BUF_CAP. FPort is present exactly where bytes remain between FHDR and MIC; the payload is what follows it,
decrypted, and is empty where there is none. -/
def Obligations.DataDownNeedsAddressAndMic : Prop :=
  ∀ (s : State) (f : List Byte) (r : DataDownInfo), decodeDataDown s f = some r →
    let n := f.length
    let h := 8 + (r.fctrl &&& 0x0F#8).toNat
    let data := (f.drop (h + 1)).take (n - 4 - (h + 1))
    12 ≤ n ∧ h + 4 ≤ n ∧ r.mhdr = f.getD 0 0#8 ∧ (mtypeOf r.mhdr = 3#3 ∨ mtypeOf r.mhdr = 5#3) ∧
    r.confirmed = decide (mtypeOf r.mhdr = 5#3) ∧
    ((f.drop 1).take 4).reverse = s.session.devAddr.toList ∧ r.fctrl = f.getD 5 0#8 ∧
    le16 r.fcnt = (f.drop 6).take 2 ∧
    f.drop (n - 4) = (Config.micData s.session.nwkSKey 1#1 s.session.devAddr (r.fcnt.setWidth 32)
      (f.take (n - 4))).toList ∧
    r.fportPresent = decide (h < n - 4) ∧ r.fport = (if h < n - 4 then f.getD h 0#8 else 0#8) ∧
    r.payload = (if h < n - 4 then
      (Config.cryptPayload (if r.fport = 0#8 then s.session.nwkSKey else s.session.appSKey) 1#1 s.session.devAddr
        (r.fcnt.setWidth 32) (toBytes data)).toList else []) ∧
    r.payload.length ≤ Config.bufCap

/-- R308 to R311: in an open window an accepted data-down of either kind sets META, latches and clears the ack bit,
raises FCNT_RX, stores a non-empty payload and announces it, and ends the cycle; RX2 is not opened. (Count of draws: log 2.) -/
def Obligations.AcceptedDownlinkEndsTheCycle : Prop :=
  ∀ (low : BitVec 5) (body : List Byte) (s : State) (r : DataDownInfo),
    ∀ i ∈ [Instr.unconfirmedDataDown low body, .confirmedDataDown low body],
    windowOpen s → s.status.radioReady = true → decodeDataDown s (encode i) = some r →
    let ack := r.fctrl &&& 0x20#8 ≠ 0#8
    let data := r.payload ≠ []
    let toC := s.settings.classReq = .c
    let mode : RadioMode := if toC then .rxcont .rx2 Config.rx2Dr else .standby
    let event := HostRecord.event
      (0xE0#8 :: (if r.confirmed then 0x01#8 else 0x00#8) :: r.fport :: BitVec.ofNat 8 r.payload.length :: r.payload)
    ∃ m : Memory,
      exec i s = .next
        { s with
          session.fcntRx := BitVec.ofNat 16 (max s.session.fcntRx.toNat r.fcnt.toNat)
          session.classCur := if toC then .c else s.session.classCur
          buffers.rxBuf := m
          buffers.rxLen := if data then BitVec.ofNat 8 r.payload.length else s.buffers.rxLen
          buffers.msgMeta :=
            { dir := .down, mhdr := r.mhdr, fctrl := if ack then r.fctrl &&& 0xDF#8 else r.fctrl
              fport := r.fport, fportPresent := r.fportPresent }
          status.cmd := .noCommand
          status.ackLatch := s.status.ackLatch || decide ack
          status.rxLatch := s.status.rxLatch || decide data
          status.radioMode := mode
          sequencer.seq := .idle
          sequencer.frame := encode i
          radio.rxSlot := none
          port := none
          observed.hostLog := s.observed.hostLog ++
            (if data ∧ s.status.cbEn = true then [event] else []) ++ [.response [0x00#8]]
          observed.modeLog := s.observed.modeLog ++ [mode]
          schedule.draws := s.schedule.draws + 1 } ∧
      (∀ a < r.payload.length, Memory.read m a = r.payload.getD a 0#8) ∧
      (∀ a ≥ r.payload.length, Memory.read m a = Memory.read s.buffers.rxBuf a)

/-- R152, R162, R308, R503, R520: in an open window a frame that DECODE_DATA_DOWN rejects, and every join-accept,
join-request, data-up, reserved and proprietary frame whatever it holds, is no message: the window stays open. Outside
the receive phases every frame waits in RX_SLOT. -/
def Obligations.UnacceptedFramesChangeNothing : Prop :=
  ∀ (low : BitVec 5) (body : List Byte) (s : State),
    (windowOpen s → s.status.radioReady = true →
      ∀ i ∈ [Instr.joinRequest low body, .joinAccept low body, .unconfirmedDataUp low body, .confirmedDataUp low body,
          .rfuMtype low body, .proprietary low body],
        exec i s = .next (tookNoMessage (encode i) s)) ∧
    (windowOpen s → s.status.radioReady = true →
      ∀ i ∈ [Instr.unconfirmedDataDown low body, .confirmedDataDown low body], decodeDataDown s (encode i) = none →
        exec i s = .next (tookNoMessage (encode i) s)) ∧
    (¬ receiving s →
      ∀ i ∈ [Instr.joinRequest low body, .joinAccept low body, .unconfirmedDataUp low body,
          .unconfirmedDataDown low body, .confirmedDataUp low body, .confirmedDataDown low body, .rfuMtype low body,
          .proprietary low body],
        exec i s = .next s)

/-! ### Class C -/

/-- R302, R352 to R354: an UPDATE with nothing pending does nothing in Class A, disarms Class C when A is wanted, and arms
continuous receive on RX2 when C is wanted and no frame waits after the radio kept or emptied RX_SLOT. (Count of draws: log
2.) -/
def Obligations.TickArmsAndDisarmsClassC : Prop :=
  ∀ s : State, s.status.cmd = .noCommand →
    (s.settings.classReq = .a → s.session.classCur = .a → exec .update s = .next (answered [0x00#8] s)) ∧
    (s.settings.classReq = .a → s.session.classCur = .c → s.status.radioReady = true →
      exec .update s = .next (answered [0x00#8] { modeSet .standby s with session.classCur := .a })) ∧
    (s.settings.classReq = .c → s.session.classCur = .a → s.status.radioReady = true → slotAfterMode s = none →
      exec .update s = .next (answered [0x00#8]
        { modeSet (.rxcont .rx2 Config.rx2Dr) s with session.classCur := .c })) ∧
    (s.settings.classReq = .c → s.session.classCur = .c → s.status.radioReady = true → s.radio.rxSlot = none →
      exec .update s = .next (answered [0x00#8] s))

/-- R353 to R355: a tick with a frame in RX_SLOT, armed before or arming now. The poll is made in the arming tick too: it takes
the frame unless the radio emptied RX_SLOT as it was armed. An accepted frame is dispatched by the ON_MESSAGE event, with the
ack latch and FCNT_RX handled; RXLEN and RX_LATCH are cleared after every detected frame, accepted or not. (Count of draws:
log 2.) -/
def Obligations.ClassCDispatchesOneFramePerTick : Prop :=
  ∀ (s : State) (f : List Byte), s.status.cmd = .noCommand → s.settings.classReq = .c →
    s.status.radioReady = true → s.radio.rxSlot = some f →
    let u := classCArmed s
    let taken := s.session.classCur = .c ∨ Config.slotKept s.schedule.draws = true
    (decodeDataDown s f = none → exec .update s = .next (answered [0x00#8]
      (if taken then { tookNoMessage f u with buffers.rxLen := 0#8, status.rxLatch := false } else u))) ∧
    (∀ r, decodeDataDown s f = some r →
      let ack := r.fctrl &&& 0x20#8 ≠ 0#8
      let event := HostRecord.event
        (0xE0#8 :: (if r.confirmed then 0x01#8 else 0x00#8) :: r.fport :: BitVec.ofNat 8 r.payload.length :: r.payload)
      ∃ m : Memory,
        exec .update s = .next (answered [0x00#8]
          (if taken then
            { u with
              session.fcntRx := BitVec.ofNat 16 (max s.session.fcntRx.toNat r.fcnt.toNat)
              buffers.rxBuf := m
              buffers.rxLen := 0#8
              buffers.msgMeta :=
                { dir := .down, mhdr := r.mhdr, fctrl := if ack then r.fctrl &&& 0xDF#8 else r.fctrl
                  fport := r.fport, fportPresent := r.fportPresent }
              status.ackLatch := s.status.ackLatch || decide ack
              status.rxLatch := false
              sequencer.frame := f
              radio.rxSlot := none
              observed.hostLog := s.observed.hostLog ++
                (if r.payload ≠ [] ∧ s.status.cbEn = true then [event] else []) }
          else u)) ∧
        (∀ a < r.payload.length, Memory.read m a = r.payload.getD a 0#8) ∧
        (∀ a ≥ r.payload.length, Memory.read m a = Memory.read s.buffers.rxBuf a))

/-- R356: whenever CLASS_CUR is C the sequencer is in IDLE and the radio in continuous receive on RX2, kept by every
step. -/
def Obligations.ClassCInvariantKeptByEveryStep : Prop :=
  ∀ s t : State, s.classInv → step s = .next t → t.classInv

/-- R351: CLASS_CUR becomes C only on request, in a step that ends in IDLE: the end of a cycle or a tick with CLASS_REQ = C. -/
def Obligations.ClassCEnteredOnlyOnRequest : Prop :=
  ∀ s t : State, step s = .next t → s.session.classCur = .a → t.session.classCur = .c →
    s.settings.classReq = .c ∧ t.sequencer.seq = .idle ∧
      (windowOpen s ∨ (s.sequencer.seq = .idle ∧ s.port = some [0x3F#8]))

/-! ### Whole-machine rules -/

/-- R31 to R33: DEVEUI, APPEUI and APPKEY are written only by their setters. -/
def Obligations.IdentityWrittenOnlyByItsSetters : Prop :=
  ∀ s t : State, step s = .next t →
    (t.identity.devEui ≠ s.identity.devEui → ∃ text, commandNext s (0x01#8 :: text)) ∧
    (t.identity.appEui ≠ s.identity.appEui → ∃ text, commandNext s (0x02#8 :: text)) ∧
    (t.identity.appKey ≠ s.identity.appKey → ∃ text, commandNext s (0x03#8 :: text))

/-- R40, R305: each step leaves TXLOG or appends one frame. A join-request leaves FCNT_TX; a data uplink carries FCNT_TX
in its bytes 6 and 7 and advances it by one modulo 2^16 in the same step. (A later hand-over may still repeat a value: the
wrap, SET_FCNT_TX and the key setters allow it, R43, R622.) -/
def Obligations.EachDataUplinkAdvancesTheCounter : Prop :=
  ∀ s t : State, step s = .next t →
    t.observed.txLog = s.observed.txLog ∨
    ∃ e, t.observed.txLog = s.observed.txLog ++ [e] ∧
      ((e.frame.getD 0 0#8 = 0x00#8 ∧ t.session.fcntTx = s.session.fcntTx) ∨
       ((e.frame.getD 0 0#8 = 0x40#8 ∨ e.frame.getD 0 0#8 = 0x80#8) ∧
        (e.frame.drop 6).take 2 = [s.session.fcntTx.extractLsb' 0 8, s.session.fcntTx.extractLsb' 8 8] ∧
        t.session.fcntTx.toNat = (s.session.fcntTx.toNat + 1) % 2 ^ 16))

/-- R64, R270: JOIN_STATE gates nothing. Two states that differ only in it take the same step, up to it. -/
def Obligations.JoinStateGatesNothing : Prop :=
  ∀ (s : State) (j : JoinState),
    let forget (t : State) : State := { t with status.joinState := .idle }
    match step s, step { s with status.joinState := j } with
    | .next t, .next t' => forget t = forget t'
    | .fault r, .fault r' => r = r'
    | .refused r, .refused r' => r = r'
    | _, _ => False

/-- R69, R74: FCNT_WRAPPED is sticky over every step, and no instruction clears it or removes a fault record. -/
def Obligations.WrapFlagAndFaultsAreSticky : Prop :=
  (∀ s t : State, step s = .next t → s.status.fcntWrapped = true → t.status.fcntWrapped = true) ∧
  (∀ (i : Instr) (s t : State), exec i s = .next t →
    (s.status.fcntWrapped = true → t.status.fcntWrapped = true) ∧ (∀ r ∈ s.faults, r ∈ t.faults))

/-- R45 to R47: the receive settings follow the transmit settings and the rate stays within the region's, kept by every
step. -/
def Obligations.RateInvariantKeptByEveryStep : Prop :=
  ∀ s t : State, s.rateInv → step s = .next t → t.rateInv

/-- R58, R59, R73, R161, R530, R602: the buffers keep their canonical form within BUF_CAP, their lengths stay within it,
announced data is present, and FRAME and RX_SLOT hold frames of at most 255 bytes. (The canonical form is the model's own
representation, log 12.) -/
def Obligations.StorageInvariantsKeptByEveryStep : Prop :=
  ∀ s t : State, s.memInv → s.latchInv → s.frameInv → step s = .next t → t.memInv ∧ t.latchInv ∧ t.frameInv

/-- R61, R70, R302, R531: the command status fits the phase, CMD is never JOIN in IDLE, and a transmission is pending only
in the phases that wait for it; kept by every step. -/
def Obligations.SequencerInvariantKeptByEveryStep : Prop :=
  ∀ s t : State, s.commandInv → s.pendingInv → step s = .next t → t.commandInv ∧ t.pendingInv

/-- R66, R511: until an INIT succeeds the radio is off, nothing is transmitted and no phase is entered; kept by every
step. -/
def Obligations.RadioUntouchedBeforeInit : Prop :=
  ∀ s t : State, s.readyInv → step s = .next t → t.readyInv

/-! ### Reset -/

/-- R95, R600, R601: the whole reset table, register by register in its order, with the OPEN parameters where it names them,
and the state outside the register file. -/
def Obligations.ResetValues : Prop :=
  let s := State.reset
  (s.identity.devEui.toList = List.replicate 8 0#8 ∧ s.identity.appEui.toList = List.replicate 8 0#8 ∧
    s.identity.appKey.toList = List.replicate 16 0#8) ∧
  (s.joinMat.devNonce.toList = List.replicate 2 0#8 ∧ s.joinMat.appNonce.toList = List.replicate 3 0#8 ∧
    s.joinMat.netId.toList = List.replicate 3 0#8) ∧
  (s.session.devAddr.toList = List.replicate 4 0#8 ∧ s.session.nwkSKey.toList = List.replicate 16 0#8 ∧
    s.session.appSKey.toList = List.replicate 16 0#8 ∧ s.session.fcntTx = 0#16 ∧ s.session.fcntRx = 0#16 ∧
    s.session.classCur = .a) ∧
  (s.settings.txCh.toNat = Config.defaultCh.val ∧ s.settings.rxCh = Config.rx1ChMap s.settings.txCh ∧
    s.settings.txDr.toNat = Config.defaultDr.val ∧ s.settings.rxDr = Config.rx1DrMap s.settings.txDr ∧
    s.settings.chMode = .fixed ∧ s.settings.confirm = false ∧ s.settings.mport = 1#8 ∧ s.settings.classReq = .a ∧
    s.settings.txPower = Config.txPowerRst ∧ s.settings.rx1Window.toNat = Config.rx1WindowRstVal.val ∧
    s.settings.rx2Window = Config.rx2WindowRst ∧ s.settings.rx1Delay.toNat = Config.rx1DelayRstVal.val ∧
    s.settings.rx2Delay = Config.rx2DelayRst) ∧
  ((∀ a, Memory.read s.buffers.txBuf a = 0#8) ∧ s.buffers.txLen = 0#8 ∧ (∀ a, Memory.read s.buffers.rxBuf a = 0#8) ∧
    s.buffers.rxLen = 0#8 ∧
    s.buffers.msgMeta = { dir := .up, mhdr := 0#8, fctrl := 0#8, fport := 0#8, fportPresent := false }) ∧
  (s.status.cmd = .noCommand ∧ s.status.ackLatch = false ∧ s.status.rxLatch = false ∧ s.status.joinState = .idle ∧
    s.status.cbEn = false ∧ s.status.radioReady = false ∧ s.status.radioMode = .off ∧ s.status.prngState = 0#32 ∧
    s.status.fcntWrapped = false) ∧
  (s.sequencer.seq = .idle ∧ s.sequencer.tEnd = 0#32 ∧ s.sequencer.elapsed = 0#32 ∧ s.sequencer.frame = [] ∧
    s.faults = []) ∧
  (s.radio.rxSlot = none ∧ s.radio.txPending = false ∧ s.port = none ∧
    s.observed = { hostLog := [], txLog := [], modeLog := [] })

/-- R11, R602: reset establishes every invariant, whatever the OPEN parameters. -/
def Obligations.ResetMeetsTheInvariants : Prop :=
  State.reset.windowInv ∧ State.reset.rateInv ∧ State.reset.classInv ∧ State.reset.memInv ∧ State.reset.latchInv ∧
  State.reset.frameInv ∧ State.reset.commandInv ∧ State.reset.pendingInv ∧ State.reset.readyInv
end

