-- ==== Sys2Proof/Laws/Decode.lean ====
section
/-! SUPPORT. The laws of the encodings: little-endian integers, MHDR, and the kind a frame decodes to. -/

namespace Sys2Proof

/-! ### Little-endian integers -/

/-- The u16 of two bytes, as a number (R13). -/
theorem toNat_ofLe16 (b0 b1 : Byte) : (ofLe16 b0 b1).toNat = 256 * b1.toNat + b0.toNat := by
  have h : (ofLe16 b0 b1).toNat = b1.toNat <<< 8 ||| b0.toNat := BitVec.toNat_append b1 b0
  rw [h, ← Nat.shiftLeft_add_eq_or_of_lt b0.isLt, Nat.shiftLeft_eq]
  omega

/-- The u32 of four bytes, as a number (R13). -/
theorem toNat_ofLe32 (b0 b1 b2 b3 : Byte) : (ofLe32 b0 b1 b2 b3).toNat =
    16777216 * b3.toNat + 65536 * b2.toNat + 256 * b1.toNat + b0.toNat := by
  have h : (ofLe32 b0 b1 b2 b3).toNat = (ofLe16 b2 b3).toNat <<< 16 ||| (ofLe16 b0 b1).toNat :=
    BitVec.toNat_append (ofLe16 b2 b3) (ofLe16 b0 b1)
  rw [h, ← Nat.shiftLeft_add_eq_or_of_lt (ofLe16 b0 b1).isLt, Nat.shiftLeft_eq, toNat_ofLe16, toNat_ofLe16]
  omega

@[simp] theorem ofLe16_bytes (v : U16) : ofLe16 (v.extractLsb' 0 8) (v.extractLsb' 8 8) = v := by
  apply BitVec.eq_of_toNat_eq
  simp only [toNat_ofLe16, BitVec.extractLsb'_toNat, Nat.shiftRight_eq_div_pow]
  omega

@[simp] theorem le16_ofLe16 (b0 b1 : Byte) : le16 (ofLe16 b0 b1) = [b0, b1] := by
  simp only [le16, List.cons.injEq, and_true]
  constructor <;> apply BitVec.eq_of_toNat_eq <;>
    simp only [toNat_ofLe16, BitVec.extractLsb'_toNat, Nat.shiftRight_eq_div_pow] <;> omega

@[simp] theorem ofLe32_bytes (v : U32) :
    ofLe32 (v.extractLsb' 0 8) (v.extractLsb' 8 8) (v.extractLsb' 16 8) (v.extractLsb' 24 8) = v := by
  apply BitVec.eq_of_toNat_eq
  simp only [toNat_ofLe32, BitVec.extractLsb'_toNat, Nat.shiftRight_eq_div_pow]
  omega

@[simp] theorem le32_ofLe32 (b0 b1 b2 b3 : Byte) : le32 (ofLe32 b0 b1 b2 b3) = [b0, b1, b2, b3] := by
  simp only [le32, List.cons.injEq, and_true]
  refine ⟨?_, ?_, ?_, ?_⟩ <;> apply BitVec.eq_of_toNat_eq <;>
    simp only [toNat_ofLe32, BitVec.extractLsb'_toNat, Nat.shiftRight_eq_div_pow] <;> omega

/-! ### MHDR -/

@[simp] theorem mtypeOf_mhdrOf (m : BitVec 3) (low : BitVec 5) : mtypeOf (mhdrOf m low) = m := by
  revert m low
  decide

@[simp] theorem mhdrLow_mhdrOf (m : BitVec 3) (low : BitVec 5) : mhdrLow (mhdrOf m low) = low := by
  revert m low
  decide

@[simp] theorem mhdrOf_fields (b : Byte) : mhdrOf (mtypeOf b) (mhdrLow b) = b := by
  revert b
  decide

/-- The command port decodes to commands only. -/
theorem isCommand_of_decodeRecord {rec : List Byte} {i : Instr} (h : decodeRecord rec = .ok i) : i.isCommand = true := by
  unfold decodeRecord at h
  split at h
  · cases h
  · split at h <;> first
      | (unfold textOperand at h; split at h <;> cases h; rfl)
      | (unfold noOperand at h; split at h <;> cases h; rfl)
      | (unfold byteOperand at h; split at h <;> cases h; rfl)
      | (unfold u16Operand at h; split at h <;> cases h; rfl)
      | (unfold u32Operand at h; split at h <;> cases h; rfl)
      | (unfold uplinkOperands at h; split at h <;> (try split at h) <;> cases h; rfl)
      | cases h

/-- A decoded frame is the encoding of what it decodes to, which is a well-formed frame. -/
theorem encode_of_decodeFrame {f : List Byte} {i : Instr} (h : decodeFrame f = .ok i) :
    encode i = f ∧ i.isCommand = false ∧ i.wellFormed = true := by
  cases f with
  | nil => cases h
  | cons b body =>
    simp only [decodeFrame] at h
    have hb := mhdrOf_fields b
    generalize hm : mtypeOf b = m at h hb
    split at h
    · next hl =>
      have key : ∀ m : BitVec 3, m = 0 ∨ m = 1 ∨ m = 2 ∨ m = 3 ∨ m = 4 ∨ m = 5 ∨ m = 6 ∨ m = 7 := by decide
      rcases key m with rfl | rfl | rfl | rfl | rfl | rfl | rfl | rfl <;> cases h <;>
        simp_all [encode, Instr.isCommand, Instr.wellFormed]
    · cases h

end Sys2Proof
end

