-- ==== Sys2Proof/Laws/State.lean ====
section
/-! SUPPORT. What each named update of State does to each field: one lemma per field, so that no proof unfolds a record
update. -/

namespace Sys2Proof.Machine

/-! ### `State.respond` -/

@[simp] theorem State.respond_identity (bytes : List Byte) (s : State) :
    (s.respond bytes).identity = s.identity := rfl

@[simp] theorem State.respond_joinMat (bytes : List Byte) (s : State) :
    (s.respond bytes).joinMat = s.joinMat := rfl

@[simp] theorem State.respond_session (bytes : List Byte) (s : State) :
    (s.respond bytes).session = s.session := rfl

@[simp] theorem State.respond_settings (bytes : List Byte) (s : State) :
    (s.respond bytes).settings = s.settings := rfl

@[simp] theorem State.respond_buffers (bytes : List Byte) (s : State) :
    (s.respond bytes).buffers = s.buffers := rfl

@[simp] theorem State.respond_status (bytes : List Byte) (s : State) :
    (s.respond bytes).status = s.status := rfl

@[simp] theorem State.respond_sequencer (bytes : List Byte) (s : State) :
    (s.respond bytes).sequencer = s.sequencer := rfl

@[simp] theorem State.respond_faults (bytes : List Byte) (s : State) :
    (s.respond bytes).faults = s.faults := rfl

@[simp] theorem State.respond_radio (bytes : List Byte) (s : State) :
    (s.respond bytes).radio = s.radio := rfl

@[simp] theorem State.respond_port (bytes : List Byte) (s : State) :
    (s.respond bytes).port = none := rfl

@[simp] theorem State.respond_observed (bytes : List Byte) (s : State) :
    (s.respond bytes).observed = { s.observed with hostLog := s.observed.hostLog ++ [.response bytes] } := rfl

@[simp] theorem State.respond_schedule (bytes : List Byte) (s : State) :
    (s.respond bytes).schedule = s.schedule := rfl

/-! ### `State.raise` -/

@[simp] theorem State.raise_identity (k : ModelFault) (op : Byte) (s : State) :
    (s.raise k op).identity = s.identity := rfl

@[simp] theorem State.raise_joinMat (k : ModelFault) (op : Byte) (s : State) :
    (s.raise k op).joinMat = s.joinMat := rfl

@[simp] theorem State.raise_session (k : ModelFault) (op : Byte) (s : State) :
    (s.raise k op).session = s.session := rfl

@[simp] theorem State.raise_settings (k : ModelFault) (op : Byte) (s : State) :
    (s.raise k op).settings = s.settings := rfl

@[simp] theorem State.raise_buffers (k : ModelFault) (op : Byte) (s : State) :
    (s.raise k op).buffers = s.buffers := rfl

@[simp] theorem State.raise_status (k : ModelFault) (op : Byte) (s : State) :
    (s.raise k op).status = s.status := rfl

@[simp] theorem State.raise_sequencer (k : ModelFault) (op : Byte) (s : State) :
    (s.raise k op).sequencer = s.sequencer := rfl

@[simp] theorem State.raise_faults (k : ModelFault) (op : Byte) (s : State) :
    (s.raise k op).faults = s.faults.insert { fault := k, opcode := op } := rfl

@[simp] theorem State.raise_radio (k : ModelFault) (op : Byte) (s : State) :
    (s.raise k op).radio = s.radio := rfl

@[simp] theorem State.raise_port (k : ModelFault) (op : Byte) (s : State) :
    (s.raise k op).port = s.port := rfl

@[simp] theorem State.raise_observed (k : ModelFault) (op : Byte) (s : State) :
    (s.raise k op).observed = s.observed := rfl

@[simp] theorem State.raise_schedule (k : ModelFault) (op : Byte) (s : State) :
    (s.raise k op).schedule = s.schedule := rfl

/-! ### `State.commandMode` -/

@[simp] theorem State.commandMode_identity (m : RadioMode) (s : State) :
    (s.commandMode m).identity = s.identity := rfl

@[simp] theorem State.commandMode_joinMat (m : RadioMode) (s : State) :
    (s.commandMode m).joinMat = s.joinMat := rfl

@[simp] theorem State.commandMode_session (m : RadioMode) (s : State) :
    (s.commandMode m).session = s.session := rfl

@[simp] theorem State.commandMode_settings (m : RadioMode) (s : State) :
    (s.commandMode m).settings = s.settings := rfl

@[simp] theorem State.commandMode_buffers (m : RadioMode) (s : State) :
    (s.commandMode m).buffers = s.buffers := rfl

@[simp] theorem State.commandMode_status (m : RadioMode) (s : State) :
    (s.commandMode m).status = { s.status with radioMode := m } := rfl

@[simp] theorem State.commandMode_sequencer (m : RadioMode) (s : State) :
    (s.commandMode m).sequencer = s.sequencer := rfl

@[simp] theorem State.commandMode_faults (m : RadioMode) (s : State) :
    (s.commandMode m).faults = s.faults := rfl

@[simp] theorem State.commandMode_radio (m : RadioMode) (s : State) :
    (s.commandMode m).radio = { s.radio with rxSlot := if Config.slotKept s.schedule.draws then s.radio.rxSlot else none } := rfl

@[simp] theorem State.commandMode_port (m : RadioMode) (s : State) :
    (s.commandMode m).port = s.port := rfl

@[simp] theorem State.commandMode_observed (m : RadioMode) (s : State) :
    (s.commandMode m).observed = { s.observed with modeLog := s.observed.modeLog ++ [m] } := rfl

@[simp] theorem State.commandMode_schedule (m : RadioMode) (s : State) :
    (s.commandMode m).schedule = { s.schedule with draws := s.schedule.draws + 1 } := rfl

/-! ### `State.transmit` -/

@[simp] theorem State.transmit_identity (e : TxEntry) (s : State) :
    (s.transmit e).identity = s.identity := rfl

@[simp] theorem State.transmit_joinMat (e : TxEntry) (s : State) :
    (s.transmit e).joinMat = s.joinMat := rfl

@[simp] theorem State.transmit_session (e : TxEntry) (s : State) :
    (s.transmit e).session = s.session := rfl

@[simp] theorem State.transmit_settings (e : TxEntry) (s : State) :
    (s.transmit e).settings = s.settings := rfl

@[simp] theorem State.transmit_buffers (e : TxEntry) (s : State) :
    (s.transmit e).buffers = s.buffers := rfl

@[simp] theorem State.transmit_status (e : TxEntry) (s : State) :
    (s.transmit e).status = { s.status with radioMode := .tx } := rfl

@[simp] theorem State.transmit_sequencer (e : TxEntry) (s : State) :
    (s.transmit e).sequencer = s.sequencer := rfl

@[simp] theorem State.transmit_faults (e : TxEntry) (s : State) :
    (s.transmit e).faults = s.faults := rfl

@[simp] theorem State.transmit_radio (e : TxEntry) (s : State) :
    (s.transmit e).radio = { s.radio with txPending := true } := rfl

@[simp] theorem State.transmit_port (e : TxEntry) (s : State) :
    (s.transmit e).port = s.port := rfl

@[simp] theorem State.transmit_observed (e : TxEntry) (s : State) :
    (s.transmit e).observed = { s.observed with txLog := s.observed.txLog ++ [e], modeLog := s.observed.modeLog ++ [.tx] } := rfl

@[simp] theorem State.transmit_schedule (e : TxEntry) (s : State) :
    (s.transmit e).schedule = s.schedule := rfl

/-! ### `State.afterDraw` -/

@[simp] theorem State.afterDraw_identity (k : Nat) (s : State) :
    (s.afterDraw k).identity = s.identity := rfl

@[simp] theorem State.afterDraw_joinMat (k : Nat) (s : State) :
    (s.afterDraw k).joinMat = s.joinMat := rfl

@[simp] theorem State.afterDraw_session (k : Nat) (s : State) :
    (s.afterDraw k).session = s.session := rfl

@[simp] theorem State.afterDraw_settings (k : Nat) (s : State) :
    (s.afterDraw k).settings = s.settings := rfl

@[simp] theorem State.afterDraw_buffers (k : Nat) (s : State) :
    (s.afterDraw k).buffers = s.buffers := rfl

@[simp] theorem State.afterDraw_status (k : Nat) (s : State) :
    (s.afterDraw k).status = { s.status with prngState := (Config.prngDraw s.status.prngState k).2 } := rfl

@[simp] theorem State.afterDraw_sequencer (k : Nat) (s : State) :
    (s.afterDraw k).sequencer = s.sequencer := rfl

@[simp] theorem State.afterDraw_faults (k : Nat) (s : State) :
    (s.afterDraw k).faults = s.faults := rfl

@[simp] theorem State.afterDraw_radio (k : Nat) (s : State) :
    (s.afterDraw k).radio = s.radio := rfl

@[simp] theorem State.afterDraw_port (k : Nat) (s : State) :
    (s.afterDraw k).port = s.port := rfl

@[simp] theorem State.afterDraw_observed (k : Nat) (s : State) :
    (s.afterDraw k).observed = s.observed := rfl

@[simp] theorem State.afterDraw_schedule (k : Nat) (s : State) :
    (s.afterDraw k).schedule = s.schedule := rfl

/-! ### `State.sessionReset` -/

@[simp] theorem State.sessionReset_identity (s : State) :
    (s.sessionReset).identity = s.identity := rfl

@[simp] theorem State.sessionReset_joinMat (s : State) :
    (s.sessionReset).joinMat = s.joinMat := rfl

@[simp] theorem State.sessionReset_session (s : State) :
    (s.sessionReset).session = { s.session with fcntTx := 0#16, fcntRx := 0#16 } := rfl

@[simp] theorem State.sessionReset_settings (s : State) :
    (s.sessionReset).settings = s.settings := rfl

@[simp] theorem State.sessionReset_buffers (s : State) :
    (s.sessionReset).buffers = s.buffers := rfl

@[simp] theorem State.sessionReset_status (s : State) :
    (s.sessionReset).status = { s.status with cmd := .noCommand } := rfl

@[simp] theorem State.sessionReset_sequencer (s : State) :
    (s.sessionReset).sequencer = s.sequencer := rfl

@[simp] theorem State.sessionReset_faults (s : State) :
    (s.sessionReset).faults = s.faults := rfl

@[simp] theorem State.sessionReset_radio (s : State) :
    (s.sessionReset).radio = s.radio := rfl

@[simp] theorem State.sessionReset_port (s : State) :
    (s.sessionReset).port = s.port := rfl

@[simp] theorem State.sessionReset_observed (s : State) :
    (s.sessionReset).observed = s.observed := rfl

@[simp] theorem State.sessionReset_schedule (s : State) :
    (s.sessionReset).schedule = s.schedule := rfl

/-! ### `State.countDraws` -/

@[simp] theorem State.countDraws_identity (n : Nat) (s : State) :
    (s.countDraws n).identity = s.identity := rfl

@[simp] theorem State.countDraws_joinMat (n : Nat) (s : State) :
    (s.countDraws n).joinMat = s.joinMat := rfl

@[simp] theorem State.countDraws_session (n : Nat) (s : State) :
    (s.countDraws n).session = s.session := rfl

@[simp] theorem State.countDraws_settings (n : Nat) (s : State) :
    (s.countDraws n).settings = s.settings := rfl

@[simp] theorem State.countDraws_buffers (n : Nat) (s : State) :
    (s.countDraws n).buffers = s.buffers := rfl

@[simp] theorem State.countDraws_status (n : Nat) (s : State) :
    (s.countDraws n).status = s.status := rfl

@[simp] theorem State.countDraws_sequencer (n : Nat) (s : State) :
    (s.countDraws n).sequencer = s.sequencer := rfl

@[simp] theorem State.countDraws_faults (n : Nat) (s : State) :
    (s.countDraws n).faults = s.faults := rfl

@[simp] theorem State.countDraws_radio (n : Nat) (s : State) :
    (s.countDraws n).radio = s.radio := rfl

@[simp] theorem State.countDraws_port (n : Nat) (s : State) :
    (s.countDraws n).port = s.port := rfl

@[simp] theorem State.countDraws_observed (n : Nat) (s : State) :
    (s.countDraws n).observed = s.observed := rfl

@[simp] theorem State.countDraws_schedule (n : Nat) (s : State) :
    (s.countDraws n).schedule = { s.schedule with draws := s.schedule.draws + n } := rfl

/-! ### `State.fcntAdvance` -/

@[simp] theorem State.fcntAdvance_identity (s : State) :
    (s.fcntAdvance).identity = s.identity := rfl

@[simp] theorem State.fcntAdvance_joinMat (s : State) :
    (s.fcntAdvance).joinMat = s.joinMat := rfl

@[simp] theorem State.fcntAdvance_session (s : State) :
    (s.fcntAdvance).session = { s.session with fcntTx := s.session.fcntTx + 1#16 } := rfl

@[simp] theorem State.fcntAdvance_settings (s : State) :
    (s.fcntAdvance).settings = s.settings := rfl

@[simp] theorem State.fcntAdvance_buffers (s : State) :
    (s.fcntAdvance).buffers = s.buffers := rfl

@[simp] theorem State.fcntAdvance_status (s : State) :
    (s.fcntAdvance).status = { s.status with fcntWrapped := s.status.fcntWrapped || s.session.fcntTx == 0xFFFF#16 } := rfl

@[simp] theorem State.fcntAdvance_sequencer (s : State) :
    (s.fcntAdvance).sequencer = s.sequencer := rfl

@[simp] theorem State.fcntAdvance_faults (s : State) :
    (s.fcntAdvance).faults = s.faults := rfl

@[simp] theorem State.fcntAdvance_radio (s : State) :
    (s.fcntAdvance).radio = s.radio := rfl

@[simp] theorem State.fcntAdvance_port (s : State) :
    (s.fcntAdvance).port = s.port := rfl

@[simp] theorem State.fcntAdvance_observed (s : State) :
    (s.fcntAdvance).observed = s.observed := rfl

@[simp] theorem State.fcntAdvance_schedule (s : State) :
    (s.fcntAdvance).schedule = s.schedule := rfl

/-! ### `State.raiseFcntRx` -/

@[simp] theorem State.raiseFcntRx_identity (c : U16) (s : State) :
    (s.raiseFcntRx c).identity = s.identity := rfl

@[simp] theorem State.raiseFcntRx_joinMat (c : U16) (s : State) :
    (s.raiseFcntRx c).joinMat = s.joinMat := rfl

@[simp] theorem State.raiseFcntRx_session (c : U16) (s : State) :
    (s.raiseFcntRx c).session = { s.session with fcntRx := if s.session.fcntRx < c then c else s.session.fcntRx } := rfl

@[simp] theorem State.raiseFcntRx_settings (c : U16) (s : State) :
    (s.raiseFcntRx c).settings = s.settings := rfl

@[simp] theorem State.raiseFcntRx_buffers (c : U16) (s : State) :
    (s.raiseFcntRx c).buffers = s.buffers := rfl

@[simp] theorem State.raiseFcntRx_status (c : U16) (s : State) :
    (s.raiseFcntRx c).status = s.status := rfl

@[simp] theorem State.raiseFcntRx_sequencer (c : U16) (s : State) :
    (s.raiseFcntRx c).sequencer = s.sequencer := rfl

@[simp] theorem State.raiseFcntRx_faults (c : U16) (s : State) :
    (s.raiseFcntRx c).faults = s.faults := rfl

@[simp] theorem State.raiseFcntRx_radio (c : U16) (s : State) :
    (s.raiseFcntRx c).radio = s.radio := rfl

@[simp] theorem State.raiseFcntRx_port (c : U16) (s : State) :
    (s.raiseFcntRx c).port = s.port := rfl

@[simp] theorem State.raiseFcntRx_observed (c : U16) (s : State) :
    (s.raiseFcntRx c).observed = s.observed := rfl

@[simp] theorem State.raiseFcntRx_schedule (c : U16) (s : State) :
    (s.raiseFcntRx c).schedule = s.schedule := rfl

/-! ### `State.setTxCh` -/

@[simp] theorem State.setTxCh_identity (i : BitVec 3) (s : State) :
    (s.setTxCh i).identity = s.identity := rfl

@[simp] theorem State.setTxCh_joinMat (i : BitVec 3) (s : State) :
    (s.setTxCh i).joinMat = s.joinMat := rfl

@[simp] theorem State.setTxCh_session (i : BitVec 3) (s : State) :
    (s.setTxCh i).session = s.session := rfl

@[simp] theorem State.setTxCh_settings (i : BitVec 3) (s : State) :
    (s.setTxCh i).settings = { s.settings with txCh := i, rxCh := Config.rx1ChMap i } := rfl

@[simp] theorem State.setTxCh_buffers (i : BitVec 3) (s : State) :
    (s.setTxCh i).buffers = s.buffers := rfl

@[simp] theorem State.setTxCh_status (i : BitVec 3) (s : State) :
    (s.setTxCh i).status = s.status := rfl

@[simp] theorem State.setTxCh_sequencer (i : BitVec 3) (s : State) :
    (s.setTxCh i).sequencer = s.sequencer := rfl

@[simp] theorem State.setTxCh_faults (i : BitVec 3) (s : State) :
    (s.setTxCh i).faults = s.faults := rfl

@[simp] theorem State.setTxCh_radio (i : BitVec 3) (s : State) :
    (s.setTxCh i).radio = s.radio := rfl

@[simp] theorem State.setTxCh_port (i : BitVec 3) (s : State) :
    (s.setTxCh i).port = s.port := rfl

@[simp] theorem State.setTxCh_observed (i : BitVec 3) (s : State) :
    (s.setTxCh i).observed = s.observed := rfl

@[simp] theorem State.setTxCh_schedule (i : BitVec 3) (s : State) :
    (s.setTxCh i).schedule = s.schedule := rfl

/-! ### `State.setTxDr` -/

@[simp] theorem State.setTxDr_identity (d : BitVec 3) (s : State) :
    (s.setTxDr d).identity = s.identity := rfl

@[simp] theorem State.setTxDr_joinMat (d : BitVec 3) (s : State) :
    (s.setTxDr d).joinMat = s.joinMat := rfl

@[simp] theorem State.setTxDr_session (d : BitVec 3) (s : State) :
    (s.setTxDr d).session = s.session := rfl

@[simp] theorem State.setTxDr_settings (d : BitVec 3) (s : State) :
    (s.setTxDr d).settings = { s.settings with txDr := d, rxDr := Config.rx1DrMap d } := rfl

@[simp] theorem State.setTxDr_buffers (d : BitVec 3) (s : State) :
    (s.setTxDr d).buffers = s.buffers := rfl

@[simp] theorem State.setTxDr_status (d : BitVec 3) (s : State) :
    (s.setTxDr d).status = s.status := rfl

@[simp] theorem State.setTxDr_sequencer (d : BitVec 3) (s : State) :
    (s.setTxDr d).sequencer = s.sequencer := rfl

@[simp] theorem State.setTxDr_faults (d : BitVec 3) (s : State) :
    (s.setTxDr d).faults = s.faults := rfl

@[simp] theorem State.setTxDr_radio (d : BitVec 3) (s : State) :
    (s.setTxDr d).radio = s.radio := rfl

@[simp] theorem State.setTxDr_port (d : BitVec 3) (s : State) :
    (s.setTxDr d).port = s.port := rfl

@[simp] theorem State.setTxDr_observed (d : BitVec 3) (s : State) :
    (s.setTxDr d).observed = s.observed := rfl

@[simp] theorem State.setTxDr_schedule (d : BitVec 3) (s : State) :
    (s.setTxDr d).schedule = s.schedule := rfl

/-! ### `State.clampRx2` -/

@[simp] theorem State.clampRx2_identity (s : State) :
    (s.clampRx2).identity = s.identity := rfl

@[simp] theorem State.clampRx2_joinMat (s : State) :
    (s.clampRx2).joinMat = s.joinMat := rfl

@[simp] theorem State.clampRx2_session (s : State) :
    (s.clampRx2).session = s.session := rfl

@[simp] theorem State.clampRx2_settings (s : State) :
    (s.clampRx2).settings = { s.settings with rx2Delay := maxU32 s.settings.rx2Delay (rx1Close s) } := rfl

@[simp] theorem State.clampRx2_buffers (s : State) :
    (s.clampRx2).buffers = s.buffers := rfl

@[simp] theorem State.clampRx2_status (s : State) :
    (s.clampRx2).status = s.status := rfl

@[simp] theorem State.clampRx2_sequencer (s : State) :
    (s.clampRx2).sequencer = s.sequencer := rfl

@[simp] theorem State.clampRx2_faults (s : State) :
    (s.clampRx2).faults = s.faults := rfl

@[simp] theorem State.clampRx2_radio (s : State) :
    (s.clampRx2).radio = s.radio := rfl

@[simp] theorem State.clampRx2_port (s : State) :
    (s.clampRx2).port = s.port := rfl

@[simp] theorem State.clampRx2_observed (s : State) :
    (s.clampRx2).observed = s.observed := rfl

@[simp] theorem State.clampRx2_schedule (s : State) :
    (s.clampRx2).schedule = s.schedule := rfl

/-! ### `State.acceptMeta` -/

@[simp] theorem State.acceptMeta_identity (r : DataDownInfo) (s : State) :
    (s.acceptMeta r).identity = s.identity := rfl

@[simp] theorem State.acceptMeta_joinMat (r : DataDownInfo) (s : State) :
    (s.acceptMeta r).joinMat = s.joinMat := rfl

@[simp] theorem State.acceptMeta_session (r : DataDownInfo) (s : State) :
    (s.acceptMeta r).session = s.session := rfl

@[simp] theorem State.acceptMeta_settings (r : DataDownInfo) (s : State) :
    (s.acceptMeta r).settings = s.settings := rfl

@[simp] theorem State.acceptMeta_buffers (r : DataDownInfo) (s : State) :
    (s.acceptMeta r).buffers = { s.buffers with msgMeta := { dir := .down, mhdr := r.mhdr, fctrl := r.fctrl, fport := r.fport, fportPresent := r.fportPresent } } := rfl

@[simp] theorem State.acceptMeta_status (r : DataDownInfo) (s : State) :
    (s.acceptMeta r).status = s.status := rfl

@[simp] theorem State.acceptMeta_sequencer (r : DataDownInfo) (s : State) :
    (s.acceptMeta r).sequencer = s.sequencer := rfl

@[simp] theorem State.acceptMeta_faults (r : DataDownInfo) (s : State) :
    (s.acceptMeta r).faults = s.faults := rfl

@[simp] theorem State.acceptMeta_radio (r : DataDownInfo) (s : State) :
    (s.acceptMeta r).radio = s.radio := rfl

@[simp] theorem State.acceptMeta_port (r : DataDownInfo) (s : State) :
    (s.acceptMeta r).port = s.port := rfl

@[simp] theorem State.acceptMeta_observed (r : DataDownInfo) (s : State) :
    (s.acceptMeta r).observed = s.observed := rfl

@[simp] theorem State.acceptMeta_schedule (r : DataDownInfo) (s : State) :
    (s.acceptMeta r).schedule = s.schedule := rfl

/-! ### `State.readSlot` -/

@[simp] theorem State.readSlot_identity (f : List Byte) (s : State) :
    (s.readSlot f).identity = s.identity := rfl

@[simp] theorem State.readSlot_joinMat (f : List Byte) (s : State) :
    (s.readSlot f).joinMat = s.joinMat := rfl

@[simp] theorem State.readSlot_session (f : List Byte) (s : State) :
    (s.readSlot f).session = s.session := rfl

@[simp] theorem State.readSlot_settings (f : List Byte) (s : State) :
    (s.readSlot f).settings = s.settings := rfl

@[simp] theorem State.readSlot_buffers (f : List Byte) (s : State) :
    (s.readSlot f).buffers = s.buffers := rfl

@[simp] theorem State.readSlot_status (f : List Byte) (s : State) :
    (s.readSlot f).status = s.status := rfl

@[simp] theorem State.readSlot_sequencer (f : List Byte) (s : State) :
    (s.readSlot f).sequencer = { s.sequencer with frame := f } := rfl

@[simp] theorem State.readSlot_faults (f : List Byte) (s : State) :
    (s.readSlot f).faults = s.faults := rfl

@[simp] theorem State.readSlot_radio (f : List Byte) (s : State) :
    (s.readSlot f).radio = { s.radio with rxSlot := none } := rfl

@[simp] theorem State.readSlot_port (f : List Byte) (s : State) :
    (s.readSlot f).port = s.port := rfl

@[simp] theorem State.readSlot_observed (f : List Byte) (s : State) :
    (s.readSlot f).observed = s.observed := rfl

@[simp] theorem State.readSlot_schedule (f : List Byte) (s : State) :
    (s.readSlot f).schedule = s.schedule := rfl

/-! ### `State.takeMove` -/

@[simp] theorem State.takeMove_identity (s : State) :
    (s.takeMove).identity = s.identity := rfl

@[simp] theorem State.takeMove_joinMat (s : State) :
    (s.takeMove).joinMat = s.joinMat := rfl

@[simp] theorem State.takeMove_session (s : State) :
    (s.takeMove).session = s.session := rfl

@[simp] theorem State.takeMove_settings (s : State) :
    (s.takeMove).settings = s.settings := rfl

@[simp] theorem State.takeMove_buffers (s : State) :
    (s.takeMove).buffers = s.buffers := rfl

@[simp] theorem State.takeMove_status (s : State) :
    (s.takeMove).status = s.status := rfl

@[simp] theorem State.takeMove_sequencer (s : State) :
    (s.takeMove).sequencer = s.sequencer := rfl

@[simp] theorem State.takeMove_faults (s : State) :
    (s.takeMove).faults = s.faults := rfl

@[simp] theorem State.takeMove_radio (s : State) :
    (s.takeMove).radio = s.radio := rfl

@[simp] theorem State.takeMove_port (s : State) :
    (s.takeMove).port = s.port := rfl

@[simp] theorem State.takeMove_observed (s : State) :
    (s.takeMove).observed = s.observed := rfl

@[simp] theorem State.takeMove_schedule (s : State) :
    (s.takeMove).schedule = { s.schedule with agenda := s.schedule.agenda.tail, moves := s.schedule.moves + 1 } := rfl

/-! ### `State.emitMessage` -/

@[simp] theorem State.emitMessage_identity (p : List Byte) (b : Bool) (q : Byte) (s : State) :
    (s.emitMessage p b q).identity = s.identity := by
  unfold State.emitMessage; split <;> simp_all

@[simp] theorem State.emitMessage_joinMat (p : List Byte) (b : Bool) (q : Byte) (s : State) :
    (s.emitMessage p b q).joinMat = s.joinMat := by
  unfold State.emitMessage; split <;> simp_all

@[simp] theorem State.emitMessage_session (p : List Byte) (b : Bool) (q : Byte) (s : State) :
    (s.emitMessage p b q).session = s.session := by
  unfold State.emitMessage; split <;> simp_all

@[simp] theorem State.emitMessage_settings (p : List Byte) (b : Bool) (q : Byte) (s : State) :
    (s.emitMessage p b q).settings = s.settings := by
  unfold State.emitMessage; split <;> simp_all

@[simp] theorem State.emitMessage_buffers (p : List Byte) (b : Bool) (q : Byte) (s : State) :
    (s.emitMessage p b q).buffers = s.buffers := by
  unfold State.emitMessage; split <;> simp_all

@[simp] theorem State.emitMessage_status (p : List Byte) (b : Bool) (q : Byte) (s : State) :
    (s.emitMessage p b q).status = s.status := by
  unfold State.emitMessage; split <;> simp_all

@[simp] theorem State.emitMessage_sequencer (p : List Byte) (b : Bool) (q : Byte) (s : State) :
    (s.emitMessage p b q).sequencer = s.sequencer := by
  unfold State.emitMessage; split <;> simp_all

@[simp] theorem State.emitMessage_faults (p : List Byte) (b : Bool) (q : Byte) (s : State) :
    (s.emitMessage p b q).faults = s.faults := by
  unfold State.emitMessage; split <;> simp_all

@[simp] theorem State.emitMessage_radio (p : List Byte) (b : Bool) (q : Byte) (s : State) :
    (s.emitMessage p b q).radio = s.radio := by
  unfold State.emitMessage; split <;> simp_all

@[simp] theorem State.emitMessage_port (p : List Byte) (b : Bool) (q : Byte) (s : State) :
    (s.emitMessage p b q).port = s.port := by
  unfold State.emitMessage; split <;> simp_all

@[simp] theorem State.emitMessage_observed (p : List Byte) (b : Bool) (q : Byte) (s : State) :
    (s.emitMessage p b q).observed = if s.status.cbEn then { s.observed with hostLog := s.observed.hostLog ++ [.event (onMessageBytes p b q)] } else s.observed := by
  unfold State.emitMessage; split <;> simp_all

@[simp] theorem State.emitMessage_schedule (p : List Byte) (b : Bool) (q : Byte) (s : State) :
    (s.emitMessage p b q).schedule = s.schedule := by
  unfold State.emitMessage; split <;> simp_all

end Sys2Proof.Machine
end

