-- ==== Sys2Proof/Laws/Frame.lean ====
section
/-! SUPPORT. What each composite operation leaves unchanged, register by register, and the registers it writes where
the value is short to say. -/

namespace Sys2Proof.Machine

/-! ### `State.latchAck` -/

@[simp] theorem State.latchAck_identity (s : State) : (State.latchAck s).identity = s.identity := by
  unfold State.latchAck
  split <;> simp_all

@[simp] theorem State.latchAck_joinMat (s : State) : (State.latchAck s).joinMat = s.joinMat := by
  unfold State.latchAck
  split <;> simp_all

@[simp] theorem State.latchAck_session (s : State) : (State.latchAck s).session = s.session := by
  unfold State.latchAck
  split <;> simp_all

@[simp] theorem State.latchAck_settings (s : State) : (State.latchAck s).settings = s.settings := by
  unfold State.latchAck
  split <;> simp_all

@[simp] theorem State.latchAck_buffers (s : State) :
    (State.latchAck s).buffers =
      { s.buffers with
        msgMeta :=
          { s.buffers.msgMeta with
            fctrl :=
              if fctrlAck s.buffers.msgMeta.fctrl then fctrlClearAck s.buffers.msgMeta.fctrl
              else s.buffers.msgMeta.fctrl } } := by
  unfold State.latchAck
  split <;> simp_all

@[simp] theorem State.latchAck_status (s : State) :
    (State.latchAck s).status =
      { s.status with
        ackLatch := (s.status.ackLatch || fctrlAck s.buffers.msgMeta.fctrl) } := by
  unfold State.latchAck
  split <;> simp_all

@[simp] theorem State.latchAck_sequencer (s : State) : (State.latchAck s).sequencer = s.sequencer := by
  unfold State.latchAck
  split <;> simp_all

@[simp] theorem State.latchAck_faults (s : State) : (State.latchAck s).faults = s.faults := by
  unfold State.latchAck
  split <;> simp_all

@[simp] theorem State.latchAck_radio (s : State) : (State.latchAck s).radio = s.radio := by
  unfold State.latchAck
  split <;> simp_all

@[simp] theorem State.latchAck_port (s : State) : (State.latchAck s).port = s.port := by
  unfold State.latchAck
  split <;> simp_all

@[simp] theorem State.latchAck_observed (s : State) : (State.latchAck s).observed = s.observed := by
  unfold State.latchAck
  split <;> simp_all

@[simp] theorem State.latchAck_schedule (s : State) : (State.latchAck s).schedule = s.schedule := by
  unfold State.latchAck
  split <;> simp_all

/-! ### `State.acceptHeader` -/

@[simp] theorem State.acceptHeader_identity (r : DataDownInfo) (s : State) :
    (State.acceptHeader r s).identity = s.identity := by
  simp [State.acceptHeader]

@[simp] theorem State.acceptHeader_joinMat (r : DataDownInfo) (s : State) :
    (State.acceptHeader r s).joinMat = s.joinMat := by
  simp [State.acceptHeader]

@[simp] theorem State.acceptHeader_session (r : DataDownInfo) (s : State) :
    (State.acceptHeader r s).session =
      { s.session with
        fcntRx := if s.session.fcntRx < r.fcnt then r.fcnt else s.session.fcntRx } := by
  rw [State.acceptHeader, State.raiseFcntRx_session, State.latchAck_session]
  rfl

@[simp] theorem State.acceptHeader_settings (r : DataDownInfo) (s : State) :
    (State.acceptHeader r s).settings = s.settings := by
  simp [State.acceptHeader]

@[simp] theorem State.acceptHeader_buffers (r : DataDownInfo) (s : State) :
    (State.acceptHeader r s).buffers =
      { s.buffers with
        msgMeta :=
          { dir := .down, mhdr := r.mhdr, fctrl := if fctrlAck r.fctrl then fctrlClearAck r.fctrl else r.fctrl
            fport := r.fport, fportPresent := r.fportPresent } } := by
  rw [State.acceptHeader, State.raiseFcntRx_buffers, State.latchAck_buffers]
  rfl

@[simp] theorem State.acceptHeader_status (r : DataDownInfo) (s : State) :
    (State.acceptHeader r s).status = { s.status with ackLatch := (s.status.ackLatch || fctrlAck r.fctrl) } := by
  rw [State.acceptHeader, State.raiseFcntRx_status, State.latchAck_status]
  rfl

@[simp] theorem State.acceptHeader_sequencer (r : DataDownInfo) (s : State) :
    (State.acceptHeader r s).sequencer = s.sequencer := by
  simp [State.acceptHeader]

@[simp] theorem State.acceptHeader_faults (r : DataDownInfo) (s : State) :
    (State.acceptHeader r s).faults = s.faults := by
  simp [State.acceptHeader]

@[simp] theorem State.acceptHeader_radio (r : DataDownInfo) (s : State) :
    (State.acceptHeader r s).radio = s.radio := by
  simp [State.acceptHeader]

@[simp] theorem State.acceptHeader_port (r : DataDownInfo) (s : State) : (State.acceptHeader r s).port = s.port := by
  simp [State.acceptHeader]

@[simp] theorem State.acceptHeader_observed (r : DataDownInfo) (s : State) :
    (State.acceptHeader r s).observed = s.observed := by
  simp [State.acceptHeader]

@[simp] theorem State.acceptHeader_schedule (r : DataDownInfo) (s : State) :
    (State.acceptHeader r s).schedule = s.schedule := by
  simp [State.acceptHeader]

/-! ### `hopChannel` -/

@[simp] theorem hopChannel_identity (s : State) : (hopChannel s).identity = s.identity := by
  unfold hopChannel randomChannel
  split <;> rfl

@[simp] theorem hopChannel_joinMat (s : State) : (hopChannel s).joinMat = s.joinMat := by
  unfold hopChannel randomChannel
  split <;> rfl

@[simp] theorem hopChannel_session (s : State) : (hopChannel s).session = s.session := by
  unfold hopChannel randomChannel
  split <;> rfl

@[simp] theorem hopChannel_txDr (s : State) :
    (hopChannel s).settings.txDr = s.settings.txDr := by
  unfold hopChannel randomChannel
  split <;> rfl

@[simp] theorem hopChannel_rxDr (s : State) :
    (hopChannel s).settings.rxDr = s.settings.rxDr := by
  unfold hopChannel randomChannel
  split <;> rfl

@[simp] theorem hopChannel_chMode (s : State) :
    (hopChannel s).settings.chMode = s.settings.chMode := by
  unfold hopChannel randomChannel
  split <;> rfl

@[simp] theorem hopChannel_confirm (s : State) :
    (hopChannel s).settings.confirm = s.settings.confirm := by
  unfold hopChannel randomChannel
  split <;> rfl

@[simp] theorem hopChannel_mport (s : State) :
    (hopChannel s).settings.mport = s.settings.mport := by
  unfold hopChannel randomChannel
  split <;> rfl

@[simp] theorem hopChannel_classReq (s : State) :
    (hopChannel s).settings.classReq = s.settings.classReq := by
  unfold hopChannel randomChannel
  split <;> rfl

@[simp] theorem hopChannel_txPower (s : State) :
    (hopChannel s).settings.txPower = s.settings.txPower := by
  unfold hopChannel randomChannel
  split <;> rfl

@[simp] theorem hopChannel_rx1Window (s : State) :
    (hopChannel s).settings.rx1Window = s.settings.rx1Window := by
  unfold hopChannel randomChannel
  split <;> rfl

@[simp] theorem hopChannel_rx2Window (s : State) :
    (hopChannel s).settings.rx2Window = s.settings.rx2Window := by
  unfold hopChannel randomChannel
  split <;> rfl

@[simp] theorem hopChannel_rx1Delay (s : State) :
    (hopChannel s).settings.rx1Delay = s.settings.rx1Delay := by
  unfold hopChannel randomChannel
  split <;> rfl

@[simp] theorem hopChannel_rx2Delay (s : State) :
    (hopChannel s).settings.rx2Delay = s.settings.rx2Delay := by
  unfold hopChannel randomChannel
  split <;> rfl

@[simp] theorem hopChannel_buffers (s : State) : (hopChannel s).buffers = s.buffers := by
  unfold hopChannel randomChannel
  split <;> rfl

@[simp] theorem hopChannel_cmd (s : State) :
    (hopChannel s).status.cmd = s.status.cmd := by
  unfold hopChannel randomChannel
  split <;> rfl

@[simp] theorem hopChannel_ackLatch (s : State) :
    (hopChannel s).status.ackLatch = s.status.ackLatch := by
  unfold hopChannel randomChannel
  split <;> rfl

@[simp] theorem hopChannel_rxLatch (s : State) :
    (hopChannel s).status.rxLatch = s.status.rxLatch := by
  unfold hopChannel randomChannel
  split <;> rfl

@[simp] theorem hopChannel_joinState (s : State) :
    (hopChannel s).status.joinState = s.status.joinState := by
  unfold hopChannel randomChannel
  split <;> rfl

@[simp] theorem hopChannel_cbEn (s : State) :
    (hopChannel s).status.cbEn = s.status.cbEn := by
  unfold hopChannel randomChannel
  split <;> rfl

@[simp] theorem hopChannel_radioReady (s : State) :
    (hopChannel s).status.radioReady = s.status.radioReady := by
  unfold hopChannel randomChannel
  split <;> rfl

@[simp] theorem hopChannel_radioMode (s : State) :
    (hopChannel s).status.radioMode = s.status.radioMode := by
  unfold hopChannel randomChannel
  split <;> rfl

@[simp] theorem hopChannel_fcntWrapped (s : State) :
    (hopChannel s).status.fcntWrapped = s.status.fcntWrapped := by
  unfold hopChannel randomChannel
  split <;> rfl

@[simp] theorem hopChannel_sequencer (s : State) : (hopChannel s).sequencer = s.sequencer := by
  unfold hopChannel randomChannel
  split <;> rfl

@[simp] theorem hopChannel_faults (s : State) : (hopChannel s).faults = s.faults := by
  unfold hopChannel randomChannel
  split <;> rfl

@[simp] theorem hopChannel_radio (s : State) : (hopChannel s).radio = s.radio := by
  unfold hopChannel randomChannel
  split <;> rfl

@[simp] theorem hopChannel_port (s : State) : (hopChannel s).port = s.port := by
  unfold hopChannel randomChannel
  split <;> rfl

@[simp] theorem hopChannel_observed (s : State) : (hopChannel s).observed = s.observed := by
  unfold hopChannel randomChannel
  split <;> rfl

@[simp] theorem hopChannel_schedule (s : State) : (hopChannel s).schedule = s.schedule := by
  unfold hopChannel randomChannel
  split <;> rfl

/-! ### `prepareJoin` -/

@[simp] theorem prepareJoin_identity (s : State) : (prepareJoin s).identity = s.identity := by
  unfold prepareJoin hopChannel
  split <;> rfl

@[simp] theorem prepareJoin_appNonce (s : State) :
    (prepareJoin s).joinMat.appNonce = s.joinMat.appNonce := by
  unfold prepareJoin hopChannel
  split <;> rfl

@[simp] theorem prepareJoin_netId (s : State) :
    (prepareJoin s).joinMat.netId = s.joinMat.netId := by
  unfold prepareJoin hopChannel
  split <;> rfl

@[simp] theorem prepareJoin_session (s : State) :
    (prepareJoin s).session = { s.session with classCur := .a } := by
  unfold prepareJoin hopChannel
  split <;> rfl

@[simp] theorem prepareJoin_settings (s : State) :
    (prepareJoin s).settings =
      { s.settings with
        txCh := (hopChannel s).settings.txCh
        rxCh := (hopChannel s).settings.rxCh } := by
  unfold prepareJoin hopChannel
  split <;> rfl

@[simp] theorem prepareJoin_buffers (s : State) :
    (prepareJoin s).buffers =
      { s.buffers with
        msgMeta :=
          { dir := .up, mhdr := 0x00#8, fctrl := 0#8, fport := 0#8, fportPresent := false } } := by
  unfold prepareJoin hopChannel
  split <;> rfl

@[simp] theorem prepareJoin_cmd (s : State) :
    (prepareJoin s).status.cmd = .join := by
  unfold prepareJoin hopChannel
  split <;> rfl

@[simp] theorem prepareJoin_ackLatch (s : State) :
    (prepareJoin s).status.ackLatch = s.status.ackLatch := by
  unfold prepareJoin hopChannel
  split <;> rfl

@[simp] theorem prepareJoin_rxLatch (s : State) :
    (prepareJoin s).status.rxLatch = s.status.rxLatch := by
  unfold prepareJoin hopChannel
  split <;> rfl

@[simp] theorem prepareJoin_joinState (s : State) :
    (prepareJoin s).status.joinState = s.status.joinState := by
  unfold prepareJoin hopChannel
  split <;> rfl

@[simp] theorem prepareJoin_cbEn (s : State) :
    (prepareJoin s).status.cbEn = s.status.cbEn := by
  unfold prepareJoin hopChannel
  split <;> rfl

@[simp] theorem prepareJoin_radioReady (s : State) :
    (prepareJoin s).status.radioReady = s.status.radioReady := by
  unfold prepareJoin hopChannel
  split <;> rfl

@[simp] theorem prepareJoin_radioMode (s : State) :
    (prepareJoin s).status.radioMode = s.status.radioMode := by
  unfold prepareJoin hopChannel
  split <;> rfl

@[simp] theorem prepareJoin_fcntWrapped (s : State) :
    (prepareJoin s).status.fcntWrapped = s.status.fcntWrapped := by
  unfold prepareJoin hopChannel
  split <;> rfl

@[simp] theorem prepareJoin_seq (s : State) :
    (prepareJoin s).sequencer.seq = s.sequencer.seq := by
  unfold prepareJoin hopChannel
  split <;> rfl

@[simp] theorem prepareJoin_tEnd (s : State) :
    (prepareJoin s).sequencer.tEnd = s.sequencer.tEnd := by
  unfold prepareJoin hopChannel
  split <;> rfl

@[simp] theorem prepareJoin_elapsed (s : State) :
    (prepareJoin s).sequencer.elapsed = s.sequencer.elapsed := by
  unfold prepareJoin hopChannel
  split <;> rfl

@[simp] theorem prepareJoin_faults (s : State) : (prepareJoin s).faults = s.faults := by
  unfold prepareJoin hopChannel
  split <;> rfl

@[simp] theorem prepareJoin_radio (s : State) : (prepareJoin s).radio = s.radio := by
  unfold prepareJoin hopChannel
  split <;> rfl

@[simp] theorem prepareJoin_port (s : State) : (prepareJoin s).port = s.port := by
  unfold prepareJoin hopChannel
  split <;> rfl

@[simp] theorem prepareJoin_observed (s : State) : (prepareJoin s).observed = s.observed := by
  unfold prepareJoin hopChannel
  split <;> rfl

@[simp] theorem prepareJoin_schedule (s : State) : (prepareJoin s).schedule = s.schedule := by
  unfold prepareJoin hopChannel
  split <;> rfl

/-! ### `prepareCycle` -/

@[simp] theorem prepareCycle_identity (s : State) : (prepareCycle s).identity = s.identity := by
  unfold prepareCycle hopChannel
  split <;> rfl

@[simp] theorem prepareCycle_joinMat (s : State) : (prepareCycle s).joinMat = s.joinMat := by
  unfold prepareCycle hopChannel
  split <;> rfl

@[simp] theorem prepareCycle_session (s : State) :
    (prepareCycle s).session = { s.session with classCur := .a } := by
  unfold prepareCycle hopChannel
  split <;> rfl

@[simp] theorem prepareCycle_settings (s : State) :
    (prepareCycle s).settings =
      { s.settings with
        txCh := (hopChannel s).settings.txCh
        rxCh := (hopChannel s).settings.rxCh } := by
  unfold prepareCycle hopChannel
  split <;> rfl

@[simp] theorem prepareCycle_buffers (s : State) : (prepareCycle s).buffers = s.buffers := by
  unfold prepareCycle hopChannel
  split <;> rfl

@[simp] theorem prepareCycle_status (s : State) :
    (prepareCycle s).status = { s.status with prngState := (hopChannel s).status.prngState } := by
  unfold prepareCycle hopChannel
  split <;> rfl

@[simp] theorem prepareCycle_sequencer (s : State) : (prepareCycle s).sequencer = s.sequencer := by
  unfold prepareCycle hopChannel
  split <;> rfl

@[simp] theorem prepareCycle_faults (s : State) : (prepareCycle s).faults = s.faults := by
  unfold prepareCycle hopChannel
  split <;> rfl

@[simp] theorem prepareCycle_radio (s : State) : (prepareCycle s).radio = s.radio := by
  unfold prepareCycle hopChannel
  split <;> rfl

@[simp] theorem prepareCycle_port (s : State) : (prepareCycle s).port = s.port := by
  unfold prepareCycle hopChannel
  split <;> rfl

@[simp] theorem prepareCycle_observed (s : State) : (prepareCycle s).observed = s.observed := by
  unfold prepareCycle hopChannel
  split <;> rfl

@[simp] theorem prepareCycle_schedule (s : State) : (prepareCycle s).schedule = s.schedule := by
  unfold prepareCycle hopChannel
  split <;> rfl

/-! ### `initialise` -/

@[simp] theorem initialise_identity (seed : U32) (s : State) : (initialise seed s).identity = s.identity := rfl

@[simp] theorem initialise_joinMat (seed : U32) (s : State) : (initialise seed s).joinMat = s.joinMat := rfl

@[simp] theorem initialise_session (seed : U32) (s : State) :
    (initialise seed s).session = { s.session with classCur := .a } := rfl

@[simp] theorem initialise_settings (seed : U32) (s : State) : (initialise seed s).settings = s.settings := rfl

@[simp] theorem initialise_buffers (seed : U32) (s : State) : (initialise seed s).buffers = s.buffers := rfl

@[simp] theorem initialise_status (seed : U32) (s : State) :
    (initialise seed s).status =
      { s.status with
        radioReady := true
        prngState := Config.prngSeed seed
        radioMode := .standby } := rfl

@[simp] theorem initialise_sequencer (seed : U32) (s : State) : (initialise seed s).sequencer = s.sequencer := rfl

@[simp] theorem initialise_faults (seed : U32) (s : State) : (initialise seed s).faults = s.faults := rfl

@[simp] theorem initialise_radio (seed : U32) (s : State) :
    (initialise seed s).radio =
      { s.radio with
        rxSlot := if Config.slotKept s.schedule.draws then s.radio.rxSlot else none } := rfl

@[simp] theorem initialise_port (seed : U32) (s : State) : (initialise seed s).port = s.port := rfl

@[simp] theorem initialise_observed (seed : U32) (s : State) :
    (initialise seed s).observed = { s.observed with modeLog := s.observed.modeLog ++ [.standby] } := rfl

@[simp] theorem initialise_schedule (seed : U32) (s : State) :
    (initialise seed s).schedule = { s.schedule with draws := s.schedule.draws + 1 } := rfl

/-! ### `joinCommit` -/

@[simp] theorem joinCommit_identity (r : JoinAcceptInfo) (s : State) : (joinCommit r s).identity = s.identity := rfl

@[simp] theorem joinCommit_joinMat (r : JoinAcceptInfo) (s : State) :
    (joinCommit r s).joinMat = { s.joinMat with appNonce := r.appNonce, netId := r.netId } := rfl

@[simp] theorem joinCommit_session (r : JoinAcceptInfo) (s : State) :
    (joinCommit r s).session =
      { s.session with
        devAddr := r.devAddr
        nwkSKey := (deriveSession s r).1
        appSKey := (deriveSession s r).2
        fcntTx := 0#16
        fcntRx := 0#16 } := rfl

@[simp] theorem joinCommit_settings (r : JoinAcceptInfo) (s : State) : (joinCommit r s).settings = s.settings := rfl

@[simp] theorem joinCommit_buffers (r : JoinAcceptInfo) (s : State) : (joinCommit r s).buffers = s.buffers := rfl

@[simp] theorem joinCommit_status (r : JoinAcceptInfo) (s : State) :
    (joinCommit r s).status = { s.status with joinState := .joinAccepted } := rfl

@[simp] theorem joinCommit_sequencer (r : JoinAcceptInfo) (s : State) :
    (joinCommit r s).sequencer = s.sequencer := rfl

@[simp] theorem joinCommit_faults (r : JoinAcceptInfo) (s : State) : (joinCommit r s).faults = s.faults := rfl

@[simp] theorem joinCommit_radio (r : JoinAcceptInfo) (s : State) : (joinCommit r s).radio = s.radio := rfl

@[simp] theorem joinCommit_port (r : JoinAcceptInfo) (s : State) : (joinCommit r s).port = s.port := rfl

@[simp] theorem joinCommit_observed (r : JoinAcceptInfo) (s : State) : (joinCommit r s).observed = s.observed := rfl

@[simp] theorem joinCommit_schedule (r : JoinAcceptInfo) (s : State) : (joinCommit r s).schedule = s.schedule := rfl

/-! ### `cycleTxDone` -/

@[simp] theorem cycleTxDone_identity (s : State) : (cycleTxDone s).identity = s.identity := rfl

@[simp] theorem cycleTxDone_joinMat (s : State) : (cycleTxDone s).joinMat = s.joinMat := rfl

@[simp] theorem cycleTxDone_session (s : State) : (cycleTxDone s).session = s.session := rfl

@[simp] theorem cycleTxDone_settings (s : State) : (cycleTxDone s).settings = s.settings := rfl

@[simp] theorem cycleTxDone_buffers (s : State) : (cycleTxDone s).buffers = s.buffers := rfl

@[simp] theorem cycleTxDone_status (s : State) :
    (cycleTxDone s).status = { s.status with radioMode := .standby } := rfl

@[simp] theorem cycleTxDone_sequencer (s : State) :
    (cycleTxDone s).sequencer = { s.sequencer with elapsed := 0#32, seq := .cycWaitRx1 } := rfl

@[simp] theorem cycleTxDone_faults (s : State) : (cycleTxDone s).faults = s.faults := rfl

@[simp] theorem cycleTxDone_radio (s : State) : (cycleTxDone s).radio = s.radio := rfl

@[simp] theorem cycleTxDone_port (s : State) : (cycleTxDone s).port = s.port := rfl

@[simp] theorem cycleTxDone_observed (s : State) : (cycleTxDone s).observed = s.observed := rfl

@[simp] theorem cycleTxDone_schedule (s : State) : (cycleTxDone s).schedule = s.schedule := rfl

/-! ### `selectChannel` -/

@[simp] theorem selectChannel_identity (c : Byte) (s : State) : (selectChannel c s).identity = s.identity := by
  unfold selectChannel
  split <;> (try split) <;> rfl

@[simp] theorem selectChannel_joinMat (c : Byte) (s : State) : (selectChannel c s).joinMat = s.joinMat := by
  unfold selectChannel
  split <;> (try split) <;> rfl

@[simp] theorem selectChannel_session (c : Byte) (s : State) : (selectChannel c s).session = s.session := by
  unfold selectChannel
  split <;> (try split) <;> rfl

@[simp] theorem selectChannel_txDr (c : Byte) (s : State) :
    (selectChannel c s).settings.txDr = s.settings.txDr := by
  unfold selectChannel
  split <;> (try split) <;> rfl

@[simp] theorem selectChannel_rxDr (c : Byte) (s : State) :
    (selectChannel c s).settings.rxDr = s.settings.rxDr := by
  unfold selectChannel
  split <;> (try split) <;> rfl

@[simp] theorem selectChannel_confirm (c : Byte) (s : State) :
    (selectChannel c s).settings.confirm = s.settings.confirm := by
  unfold selectChannel
  split <;> (try split) <;> rfl

@[simp] theorem selectChannel_mport (c : Byte) (s : State) :
    (selectChannel c s).settings.mport = s.settings.mport := by
  unfold selectChannel
  split <;> (try split) <;> rfl

@[simp] theorem selectChannel_classReq (c : Byte) (s : State) :
    (selectChannel c s).settings.classReq = s.settings.classReq := by
  unfold selectChannel
  split <;> (try split) <;> rfl

@[simp] theorem selectChannel_txPower (c : Byte) (s : State) :
    (selectChannel c s).settings.txPower = s.settings.txPower := by
  unfold selectChannel
  split <;> (try split) <;> rfl

@[simp] theorem selectChannel_rx1Window (c : Byte) (s : State) :
    (selectChannel c s).settings.rx1Window = s.settings.rx1Window := by
  unfold selectChannel
  split <;> (try split) <;> rfl

@[simp] theorem selectChannel_rx2Window (c : Byte) (s : State) :
    (selectChannel c s).settings.rx2Window = s.settings.rx2Window := by
  unfold selectChannel
  split <;> (try split) <;> rfl

@[simp] theorem selectChannel_rx1Delay (c : Byte) (s : State) :
    (selectChannel c s).settings.rx1Delay = s.settings.rx1Delay := by
  unfold selectChannel
  split <;> (try split) <;> rfl

@[simp] theorem selectChannel_rx2Delay (c : Byte) (s : State) :
    (selectChannel c s).settings.rx2Delay = s.settings.rx2Delay := by
  unfold selectChannel
  split <;> (try split) <;> rfl

@[simp] theorem selectChannel_buffers (c : Byte) (s : State) : (selectChannel c s).buffers = s.buffers := by
  unfold selectChannel
  split <;> (try split) <;> rfl

@[simp] theorem selectChannel_status (c : Byte) (s : State) : (selectChannel c s).status = s.status := by
  unfold selectChannel
  split <;> (try split) <;> rfl

@[simp] theorem selectChannel_sequencer (c : Byte) (s : State) : (selectChannel c s).sequencer = s.sequencer := by
  unfold selectChannel
  split <;> (try split) <;> rfl

@[simp] theorem selectChannel_faults (c : Byte) (s : State) : (selectChannel c s).faults = s.faults := by
  unfold selectChannel
  split <;> (try split) <;> rfl

@[simp] theorem selectChannel_radio (c : Byte) (s : State) : (selectChannel c s).radio = s.radio := by
  unfold selectChannel
  split <;> (try split) <;> rfl

@[simp] theorem selectChannel_port (c : Byte) (s : State) : (selectChannel c s).port = s.port := by
  unfold selectChannel
  split <;> (try split) <;> rfl

@[simp] theorem selectChannel_observed (c : Byte) (s : State) : (selectChannel c s).observed = s.observed := by
  unfold selectChannel
  split <;> (try split) <;> rfl

@[simp] theorem selectChannel_schedule (c : Byte) (s : State) : (selectChannel c s).schedule = s.schedule := by
  unfold selectChannel
  split <;> (try split) <;> rfl

/-! ### `selectDatarate` -/

@[simp] theorem selectDatarate_identity (d : Byte) (s : State) : (selectDatarate d s).identity = s.identity := by
  unfold selectDatarate
  split <;> rfl

@[simp] theorem selectDatarate_joinMat (d : Byte) (s : State) : (selectDatarate d s).joinMat = s.joinMat := by
  unfold selectDatarate
  split <;> rfl

@[simp] theorem selectDatarate_session (d : Byte) (s : State) : (selectDatarate d s).session = s.session := by
  unfold selectDatarate
  split <;> rfl

@[simp] theorem selectDatarate_txCh (d : Byte) (s : State) :
    (selectDatarate d s).settings.txCh = s.settings.txCh := by
  unfold selectDatarate
  split <;> rfl

@[simp] theorem selectDatarate_rxCh (d : Byte) (s : State) :
    (selectDatarate d s).settings.rxCh = s.settings.rxCh := by
  unfold selectDatarate
  split <;> rfl

@[simp] theorem selectDatarate_chMode (d : Byte) (s : State) :
    (selectDatarate d s).settings.chMode = s.settings.chMode := by
  unfold selectDatarate
  split <;> rfl

@[simp] theorem selectDatarate_confirm (d : Byte) (s : State) :
    (selectDatarate d s).settings.confirm = s.settings.confirm := by
  unfold selectDatarate
  split <;> rfl

@[simp] theorem selectDatarate_mport (d : Byte) (s : State) :
    (selectDatarate d s).settings.mport = s.settings.mport := by
  unfold selectDatarate
  split <;> rfl

@[simp] theorem selectDatarate_classReq (d : Byte) (s : State) :
    (selectDatarate d s).settings.classReq = s.settings.classReq := by
  unfold selectDatarate
  split <;> rfl

@[simp] theorem selectDatarate_txPower (d : Byte) (s : State) :
    (selectDatarate d s).settings.txPower = s.settings.txPower := by
  unfold selectDatarate
  split <;> rfl

@[simp] theorem selectDatarate_rx1Window (d : Byte) (s : State) :
    (selectDatarate d s).settings.rx1Window = s.settings.rx1Window := by
  unfold selectDatarate
  split <;> rfl

@[simp] theorem selectDatarate_rx2Window (d : Byte) (s : State) :
    (selectDatarate d s).settings.rx2Window = s.settings.rx2Window := by
  unfold selectDatarate
  split <;> rfl

@[simp] theorem selectDatarate_rx1Delay (d : Byte) (s : State) :
    (selectDatarate d s).settings.rx1Delay = s.settings.rx1Delay := by
  unfold selectDatarate
  split <;> rfl

@[simp] theorem selectDatarate_rx2Delay (d : Byte) (s : State) :
    (selectDatarate d s).settings.rx2Delay = s.settings.rx2Delay := by
  unfold selectDatarate
  split <;> rfl

@[simp] theorem selectDatarate_buffers (d : Byte) (s : State) : (selectDatarate d s).buffers = s.buffers := by
  unfold selectDatarate
  split <;> rfl

@[simp] theorem selectDatarate_status (d : Byte) (s : State) : (selectDatarate d s).status = s.status := by
  unfold selectDatarate
  split <;> rfl

@[simp] theorem selectDatarate_sequencer (d : Byte) (s : State) : (selectDatarate d s).sequencer = s.sequencer := by
  unfold selectDatarate
  split <;> rfl

@[simp] theorem selectDatarate_faults (d : Byte) (s : State) : (selectDatarate d s).faults = s.faults := by
  unfold selectDatarate
  split <;> rfl

@[simp] theorem selectDatarate_radio (d : Byte) (s : State) : (selectDatarate d s).radio = s.radio := by
  unfold selectDatarate
  split <;> rfl

@[simp] theorem selectDatarate_port (d : Byte) (s : State) : (selectDatarate d s).port = s.port := by
  unfold selectDatarate
  split <;> rfl

@[simp] theorem selectDatarate_observed (d : Byte) (s : State) : (selectDatarate d s).observed = s.observed := by
  unfold selectDatarate
  split <;> rfl

@[simp] theorem selectDatarate_schedule (d : Byte) (s : State) : (selectDatarate d s).schedule = s.schedule := by
  unfold selectDatarate
  split <;> rfl

/-! ### `selectClass` -/

@[simp] theorem selectClass_identity (c : Byte) (s : State) : (selectClass c s).identity = s.identity := by
  unfold selectClass
  split <;> (try split) <;> rfl

@[simp] theorem selectClass_joinMat (c : Byte) (s : State) : (selectClass c s).joinMat = s.joinMat := by
  unfold selectClass
  split <;> (try split) <;> rfl

@[simp] theorem selectClass_session (c : Byte) (s : State) : (selectClass c s).session = s.session := by
  unfold selectClass
  split <;> (try split) <;> rfl

@[simp] theorem selectClass_txCh (c : Byte) (s : State) :
    (selectClass c s).settings.txCh = s.settings.txCh := by
  unfold selectClass
  split <;> (try split) <;> rfl

@[simp] theorem selectClass_rxCh (c : Byte) (s : State) :
    (selectClass c s).settings.rxCh = s.settings.rxCh := by
  unfold selectClass
  split <;> (try split) <;> rfl

@[simp] theorem selectClass_txDr (c : Byte) (s : State) :
    (selectClass c s).settings.txDr = s.settings.txDr := by
  unfold selectClass
  split <;> (try split) <;> rfl

@[simp] theorem selectClass_rxDr (c : Byte) (s : State) :
    (selectClass c s).settings.rxDr = s.settings.rxDr := by
  unfold selectClass
  split <;> (try split) <;> rfl

@[simp] theorem selectClass_chMode (c : Byte) (s : State) :
    (selectClass c s).settings.chMode = s.settings.chMode := by
  unfold selectClass
  split <;> (try split) <;> rfl

@[simp] theorem selectClass_confirm (c : Byte) (s : State) :
    (selectClass c s).settings.confirm = s.settings.confirm := by
  unfold selectClass
  split <;> (try split) <;> rfl

@[simp] theorem selectClass_mport (c : Byte) (s : State) :
    (selectClass c s).settings.mport = s.settings.mport := by
  unfold selectClass
  split <;> (try split) <;> rfl

@[simp] theorem selectClass_txPower (c : Byte) (s : State) :
    (selectClass c s).settings.txPower = s.settings.txPower := by
  unfold selectClass
  split <;> (try split) <;> rfl

@[simp] theorem selectClass_rx1Window (c : Byte) (s : State) :
    (selectClass c s).settings.rx1Window = s.settings.rx1Window := by
  unfold selectClass
  split <;> (try split) <;> rfl

@[simp] theorem selectClass_rx2Window (c : Byte) (s : State) :
    (selectClass c s).settings.rx2Window = s.settings.rx2Window := by
  unfold selectClass
  split <;> (try split) <;> rfl

@[simp] theorem selectClass_rx1Delay (c : Byte) (s : State) :
    (selectClass c s).settings.rx1Delay = s.settings.rx1Delay := by
  unfold selectClass
  split <;> (try split) <;> rfl

@[simp] theorem selectClass_rx2Delay (c : Byte) (s : State) :
    (selectClass c s).settings.rx2Delay = s.settings.rx2Delay := by
  unfold selectClass
  split <;> (try split) <;> rfl

@[simp] theorem selectClass_buffers (c : Byte) (s : State) : (selectClass c s).buffers = s.buffers := by
  unfold selectClass
  split <;> (try split) <;> rfl

@[simp] theorem selectClass_status (c : Byte) (s : State) : (selectClass c s).status = s.status := by
  unfold selectClass
  split <;> (try split) <;> rfl

@[simp] theorem selectClass_sequencer (c : Byte) (s : State) : (selectClass c s).sequencer = s.sequencer := by
  unfold selectClass
  split <;> (try split) <;> rfl

@[simp] theorem selectClass_faults (c : Byte) (s : State) : (selectClass c s).faults = s.faults := by
  unfold selectClass
  split <;> (try split) <;> rfl

@[simp] theorem selectClass_radio (c : Byte) (s : State) : (selectClass c s).radio = s.radio := by
  unfold selectClass
  split <;> (try split) <;> rfl

@[simp] theorem selectClass_port (c : Byte) (s : State) : (selectClass c s).port = s.port := by
  unfold selectClass
  split <;> (try split) <;> rfl

@[simp] theorem selectClass_observed (c : Byte) (s : State) : (selectClass c s).observed = s.observed := by
  unfold selectClass
  split <;> (try split) <;> rfl

@[simp] theorem selectClass_schedule (c : Byte) (s : State) : (selectClass c s).schedule = s.schedule := by
  unfold selectClass
  split <;> (try split) <;> rfl

end Sys2Proof.Machine
end

