-- ==== Sys2Proof/Laws/Memory.lean ====
section
/-! SUPPORT. The laws of the byte stores: read after write, and the canonical form kept by every write. -/

namespace Sys2Proof.Machine

/-! ### The canonical form -/

/-- A store in form from `hi` on is in form from any lower index on. -/
theorem Memory.wfFrom_mono {lo hi : Nat} (h : lo ≤ hi) {m : Memory} (hm : Memory.wfFrom hi m = true) :
    Memory.wfFrom lo m = true := by
  cases m with
  | nil => rfl
  | cons e rest =>
    simp only [Memory.wfFrom, Bool.and_eq_true, decide_eq_true_eq] at hm ⊢
    exact ⟨⟨⟨le_trans h hm.1.1.1, hm.1.1.2⟩, hm.1.2⟩, hm.2⟩

theorem Memory.wfFrom_erase {lo a : Nat} {m : Memory} (hm : Memory.wfFrom lo m = true) :
    Memory.wfFrom lo (Memory.erase m a) = true := by
  induction m generalizing lo with
  | nil => rfl
  | cons e rest ih =>
    obtain ⟨k, v⟩ := e
    simp only [Memory.wfFrom, Bool.and_eq_true, decide_eq_true_eq] at hm
    simp only [Memory.erase]
    split
    · exact Memory.wfFrom_mono (by omega) (ih hm.2)
    · simp only [Memory.wfFrom, Bool.and_eq_true, decide_eq_true_eq]
      exact ⟨hm.1, ih hm.2⟩

theorem Memory.wfFrom_insert {lo a : Nat} {b : Byte} {m : Memory} (hl : lo ≤ a) (ha : a < Config.bufCap) (hb : b ≠ 0#8)
    (hm : Memory.wfFrom lo m = true) : Memory.wfFrom lo (Memory.insert m a b) = true := by
  induction m generalizing lo with
  | nil => simp [Memory.insert, Memory.wfFrom, hl, ha, hb]
  | cons e rest ih =>
    obtain ⟨k, v⟩ := e
    simp only [Memory.wfFrom, Bool.and_eq_true, decide_eq_true_eq] at hm
    simp only [Memory.insert]
    split
    · next h => subst h; simp_all [Memory.wfFrom]
    · split
      · next hk hlt =>
        simp only [Memory.wfFrom, Bool.and_eq_true, decide_eq_true_eq]
        exact ⟨⟨⟨hl, ha⟩, by simp [hb]⟩, ⟨⟨by omega, hm.1.1.2⟩, hm.1.2⟩, hm.2⟩
      · next hk hlt =>
        simp only [Memory.wfFrom, Bool.and_eq_true, decide_eq_true_eq]
        exact ⟨hm.1, ih (by omega) hm.2⟩

/-- A write below BUF_CAP keeps the canonical form. -/
theorem Memory.wf_write {a : Nat} {b : Byte} {m : Memory} (ha : a < Config.bufCap) (hm : Memory.wf m = true) :
    Memory.wf (Memory.write m a b) = true := by
  unfold Memory.write Memory.wf
  split
  · exact Memory.wfFrom_erase hm
  · next hb => exact Memory.wfFrom_insert (Nat.zero_le a) ha hb hm

/-- A write of several bytes within BUF_CAP keeps the canonical form. -/
theorem Memory.wf_writeMany {i : Nat} {bs : List Byte} {m : Memory} (h : i + bs.length ≤ Config.bufCap)
    (hm : Memory.wf m = true) : Memory.wf (Memory.writeMany m i bs) = true := by
  induction bs generalizing i m with
  | nil => exact hm
  | cons b rest ih =>
    simp only [List.length_cons] at h
    exact ih (by omega) (Memory.wf_write (by omega) hm)

/-! ### Read after write -/

theorem Memory.read_insert_same (m : Memory) (a : Nat) (b : Byte) : Memory.read (Memory.insert m a b) a = b := by
  induction m with
  | nil => simp [Memory.insert, Memory.read]
  | cons e rest ih =>
    simp only [Memory.insert]
    split
    · simp [Memory.read]
    · split
      · simp [Memory.read]
      · next h _ => simp [Memory.read, h, ih]

theorem Memory.read_insert_other (m : Memory) {a c : Nat} (b : Byte) (h : c ≠ a) :
    Memory.read (Memory.insert m a b) c = Memory.read m c := by
  induction m with
  | nil => simp [Memory.insert, Memory.read, Ne.symm h]
  | cons e rest ih =>
    simp only [Memory.insert]
    split
    · next hk => simp [Memory.read, hk, Ne.symm h]
    · split
      · simp [Memory.read, Ne.symm h]
      · simp only [Memory.read, ih]

theorem Memory.read_erase_other (m : Memory) {a c : Nat} (h : c ≠ a) :
    Memory.read (Memory.erase m a) c = Memory.read m c := by
  induction m with
  | nil => rfl
  | cons e rest ih =>
    simp only [Memory.erase]
    split
    · next hk => simp [Memory.read, hk, Ne.symm h, ih]
    · simp only [Memory.read, ih]

theorem Memory.read_erase_same (m : Memory) (a : Nat) : Memory.read (Memory.erase m a) a = 0#8 := by
  induction m with
  | nil => rfl
  | cons e rest ih =>
    simp only [Memory.erase]
    split
    · exact ih
    · next hk => simp only [Memory.read, if_neg hk, ih]

/-- A read after a write to another index. -/
theorem Memory.read_write_other (m : Memory) {a c : Nat} (b : Byte) (h : c ≠ a) :
    Memory.read (Memory.write m a b) c = Memory.read m c := by
  unfold Memory.write
  split
  · exact Memory.read_erase_other m h
  · exact Memory.read_insert_other m b h

/-- A read after a write to the same index. -/
theorem Memory.read_write_same (m : Memory) (a : Nat) (b : Byte) : Memory.read (Memory.write m a b) a = b := by
  unfold Memory.write
  split
  · next h => rw [h]; exact Memory.read_erase_same m a
  · exact Memory.read_insert_same m a b

/-- A read outside the bytes written. -/
theorem Memory.read_writeMany_other (m : Memory) {i c : Nat} (bs : List Byte) (h : c < i ∨ i + bs.length ≤ c) :
    Memory.read (Memory.writeMany m i bs) c = Memory.read m c := by
  induction bs generalizing i m with
  | nil => rfl
  | cons b rest ih =>
    simp only [List.length_cons] at h
    rw [Memory.writeMany, ih _ (by omega), Memory.read_write_other _ _ (by omega)]

/-- A read among the bytes written. -/
theorem Memory.read_writeMany_same (m : Memory) {i k : Nat} (bs : List Byte) (h : k < bs.length) :
    Memory.read (Memory.writeMany m i bs) (i + k) = bs.getD k 0#8 := by
  induction bs generalizing i k m with
  | nil => simp at h
  | cons b rest ih =>
    rw [Memory.writeMany]
    cases k with
    | zero => rw [Memory.read_writeMany_other _ _ (by omega)]; simp [Memory.read_write_same]
    | succ k =>
      simp only [List.length_cons] at h
      rw [show i + (k + 1) = i + 1 + k by omega, ih _ (by omega)]
      simp

/-- Reading several bytes reads each of them. -/
theorem Memory.readMany_eq_map (m : Memory) (i n : Nat) :
    Memory.readMany m i n = (List.range n).map (fun k => Memory.read m (i + k)) := by
  induction n generalizing i with
  | zero => rfl
  | succ n ih =>
    rw [Memory.readMany, ih, List.range_succ_eq_map]
    simp [Nat.add_comm, Nat.add_left_comm]

@[simp] theorem Memory.length_readMany (m : Memory) (i n : Nat) : (Memory.readMany m i n).length = n := by
  simp [Memory.readMany_eq_map]

/-! ### The bounded accesses (R102) -/

/-- MemRead answers exactly within the bound. -/
theorem memRead_eq_ok {m : Memory} {i n : Nat} {l : List Byte} :
    memRead m i n = .ok l ↔ i + n ≤ Config.bufCap ∧ Memory.readMany m i n = l := by
  unfold memRead
  split <;> simp_all

/-- MemWrite answers exactly within the bound. -/
theorem memWrite_eq_ok {m m' : Memory} {i : Nat} {bs : List Byte} :
    memWrite m i bs = .ok m' ↔ i + bs.length ≤ Config.bufCap ∧ Memory.writeMany m i bs = m' := by
  unfold memWrite
  split <;> simp_all

end Sys2Proof.Machine
end

