-- ==== Sys2Proof/Laws/Ops.lean ====
section
/-! SUPPORT. What each shared operation does, said once: when it answers, with what state, and which fault it raises
otherwise. -/

namespace Sys2Proof.Machine

/-! ### The end of a command's step -/

@[simp] theorem conclude_ok (op : Byte) (s t : State) : conclude op s (.ok t) = .next t := rfl

@[simp] theorem conclude_error (op : Byte) (s : State) (k : ModelFault) :
    conclude op s (.error k) = .next (s.raise k op) := rfl

/-- A concluded step goes on to what it did, or to `s` with the fault's record. -/
theorem conclude_eq_next {op : Byte} {s t : State} {r : Except ModelFault State} :
    conclude op s r = .next t ↔ r = .ok t ∨ ∃ k, r = .error k ∧ s.raise k op = t := by
  cases r <;> simp

/-- A raised fault keeps the records already there. -/
theorem State.mem_raise_faults {k : ModelFault} {op : Byte} {s : State} {r : FaultRecord} (h : r ∈ s.faults) :
    r ∈ (s.raise k op).faults := by
  simp only [State.raise, List.mem_insert_iff]
  exact .inr h

/-! ### The radio primitives (R530 to R533) -/

theorem radioSetMode_of_ready {s : State} (m : RadioMode) (h : s.status.radioReady = true) :
    radioSetMode m s = .ok (s.commandMode m) := if_pos h

theorem radioSetMode_of_not_ready {s : State} (m : RadioMode) (h : s.status.radioReady = false) :
    radioSetMode m s = .error (.radioNotReady .setMode) := by simp [radioSetMode, h]

theorem radioSetMode_eq_ok {m : RadioMode} {s t : State} :
    radioSetMode m s = .ok t ↔ s.status.radioReady = true ∧ s.commandMode m = t := by
  unfold radioSetMode
  split <;> simp_all

theorem radioTransmit_eq_ok {f : List Byte} {i : BitVec 3} {dr pwr : Byte} {s t : State} :
    radioTransmit f i dr pwr s = .ok t ↔ s.status.radioReady = true ∧ Config.chValid i = true ∧
      s.transmit { frame := f, ch := .up i, dr := dr, pwr := pwr } = t := by
  unfold radioTransmit
  split
  · split <;> simp_all
  · simp_all

theorem radioTransmit_of_ready {f : List Byte} {i : BitVec 3} {dr pwr : Byte} {s : State}
    (h : s.status.radioReady = true) (hv : Config.chValid i = true) :
    radioTransmit f i dr pwr s = .ok (s.transmit { frame := f, ch := .up i, dr := dr, pwr := pwr }) := by
  simp [radioTransmit, h, hv]

theorem radioTransmit_of_undefined {f : List Byte} {i : BitVec 3} {dr pwr : Byte} {s : State}
    (h : s.status.radioReady = true) (hv : Config.chValid i = false) :
    radioTransmit f i dr pwr s = .error (.channelUndefined i) := by
  simp [radioTransmit, h, hv]

theorem radioAvailable_eq_ok {s : State} {b : Bool} :
    radioAvailable s = .ok b ↔ s.status.radioReady = true ∧ s.radio.rxSlot.isSome = b := by
  unfold radioAvailable
  split <;> simp_all

theorem radioRead_eq_ok {f : List Byte} {s t : State} :
    radioRead f s = .ok t ↔
      s.status.radioReady = true ∧ s.readSlot f = t := by
  unfold radioRead
  split <;> simp_all

theorem radioRead_of_ready {s : State} (f : List Byte) (h : s.status.radioReady = true) :
    radioRead f s = .ok (s.readSlot f) := if_pos h

theorem radioRssi_eq_ok {s : State} {p : Byte × State} :
    radioRssi s = .ok p ↔ s.status.radioReady = true ∧
      (Config.rssiRaw s.schedule.draws, { s with schedule.draws := s.schedule.draws + 1 }) = p := by
  unfold radioRssi
  split <;> simp_all

/-! ### Channels and windows -/

/-- RANDOM_CHANNEL answers a channel the region defines (R372, R374). -/
theorem chValid_of_draw (p : U32) : Config.chValid (BitVec.ofNat 3 (Config.prngDraw p Config.chCountPred).1.val) = true := by
  have hlt := (Config.prngDraw p Config.chCountPred).1.isLt
  have hle : (BitVec.ofNat 3 (Config.prngDraw p Config.chCountPred).1.val).toNat ≤
      (Config.prngDraw p Config.chCountPred).1.val := by
    rw [BitVec.toNat_ofNat]
    exact Nat.mod_le _ _
  rw [Config.chValid, Bool.or_eq_true]
  exact .inl (decide_eq_true (Nat.lt_of_le_of_lt hle hlt))

/-- A saturating sum is the smaller of the sum and the largest u32 (R12). -/
theorem toNat_sat32 (a b : U32) : (sat32 a b).toNat = min (a.toNat + b.toNat) (2 ^ 32 - 1) := by
  unfold sat32
  split
  · next h => rw [BitVec.toNat_add, Nat.mod_eq_of_lt h]; omega
  · simp; omega

theorem toNat_maxU32 (a b : U32) : (maxU32 a b).toNat = max a.toNat b.toNat := by
  unfold maxU32
  split <;> rename_i h <;> simp only [BitVec.lt_def] at h <;> omega

/-! ### What the decoders depend on -/

/-- A data downlink's decoding depends on the session only. -/
theorem decodeDataDown_of_session_eq {s t : State} (h : s.session = t.session) (f : List Byte) :
    decodeDataDown s f = decodeDataDown t f := by
  cases s
  cases t
  cases h
  rfl

/-- A join-accept's decoding depends on APPKEY only. -/
theorem decodeJoinAccept_of_identity_eq {s t : State} (h : s.identity = t.identity) (f : List Byte) :
    decodeJoinAccept s f = decodeJoinAccept t f := by
  cases s
  cases t
  cases h
  rfl

@[simp] theorem decodeDataDown_readSlot (s : State) (f g : List Byte) :
    decodeDataDown (s.readSlot g) f = decodeDataDown s f := decodeDataDown_of_session_eq rfl f

@[simp] theorem decodeJoinAccept_readSlot (s : State) (f g : List Byte) :
    decodeJoinAccept (s.readSlot g) f = decodeJoinAccept s f := decodeJoinAccept_of_identity_eq rfl f

/-! ### The join (R271 to R277) -/

/-- The issuing step of JOIN answers exactly with an initialised radio and a defined channel. -/
theorem startJoin_eq_ok {s t : State} :
    startJoin s = .ok t ↔ s.status.radioReady = true ∧ Config.chValid (prepareJoin s).settings.txCh = true ∧
      t = { ((prepareJoin s).commandMode .standby).transmit
              { frame := (prepareJoin s).sequencer.frame, ch := .up (prepareJoin s).settings.txCh
                dr := (prepareJoin s).settings.txDr.setWidth 8, pwr := (prepareJoin s).settings.txPower } with
            status.joinState := .joinSent, sequencer.seq := .joinTx } := by
  rw [startJoin, ← prepareJoin_radioReady s]
  generalize prepareJoin s = p
  by_cases h : p.status.radioReady = true
  · by_cases hv : Config.chValid p.settings.txCh = true <;>
      simp [radioSetMode, radioTransmit, h, hv, pure, bind, Except.pure, Except.bind, @eq_comm _ t]
  · simp [radioSetMode, h, bind, Except.bind]

theorem joinEnd_eq_ok {ok : Bool} {s t : State} :
    joinEnd ok s = .ok t ↔ s.status.radioReady = true ∧
      t = { s.commandMode .standby with status.cmd := .noCommand, sequencer.seq := .idle }.respond
        [0x00#8, boolByte ok] := by
  by_cases h : s.status.radioReady = true <;>
    simp [joinEnd, radioSetMode, h, pure, bind, Except.pure, Except.bind, @eq_comm _ t]

theorem joinTxDone_eq_ok {s t : State} :
    joinTxDone s = .ok t ↔ s.status.radioReady = true ∧
      t = { { s with
                status.radioMode := .standby
                sequencer.elapsed := 0#32
                sequencer.tEnd := Config.joinTimeoutMs }.commandMode
              (.rxcont (.down s.settings.rxCh) s.settings.rxDr) with sequencer.seq := .joinWait } := by
  by_cases h : s.status.radioReady = true <;>
    simp [joinTxDone, radioSetMode, h, pure, bind, Except.pure, Except.bind, @eq_comm _ t]

theorem joinTimeout_eq_ok {s t : State} :
    joinTimeout s = .ok t ↔ s.status.radioReady = true ∧
      t = { { s with status.joinState := .joinTimeout }.commandMode .standby with
            status.cmd := .noCommand, sequencer.seq := .idle }.respond [0x00#8, 0x00#8] :=
  joinEnd_eq_ok

/-- Taking a frame in the join wait: the frame is no message, or it is an accepted join-accept, whose session is
committed before the join ends. -/
theorem joinFrame_eq_ok {f : List Byte} {s t : State} :
    joinFrame f s = .ok t ↔ s.status.radioReady = true ∧
      ((decodeJoinAccept s f = none ∧ t = s.readSlot f) ∨
       ∃ r, decodeJoinAccept s f = some r ∧ joinEnd true (joinCommit r (s.readSlot f)) = .ok t) := by
  by_cases h : s.status.radioReady = true
  · rw [joinFrame, radioRead_of_ready f h]
    simp only [bind, Except.bind, h, true_and]
    split <;> simp_all [pure, Except.pure, @eq_comm _ t]
  · simp [joinFrame, radioRead, h, bind, Except.bind]

/-! ### The cycle (R304 to R311) -/

theorem encodeDataUp_eq_ok {kind : DataKind} {s t : State} :
    encodeDataUp kind s = .ok t ↔ ∃ payload,
      (kind = .uplink ∧ memRead s.buffers.txBuf 0 s.buffers.txLen.toNat = .ok payload ∨
        kind = .ack ∧ payload = []) ∧
      t = { s with sequencer.frame := dataUpFrame kind s payload, buffers.msgMeta := dataUpMeta kind s } := by
  cases kind
  · simp only [encodeDataUp, bind, Except.bind, pure, Except.pure]
    cases memRead s.buffers.txBuf 0 s.buffers.txLen.toNat <;> simp [eq_comm]
  · simp [encodeDataUp, bind, Except.bind, pure, Except.pure, @eq_comm _ t]

/-- CYCLE_START answers exactly where the encoder does, the radio is initialised and the channel is defined. -/
theorem cycleStart_eq_ok {kind : DataKind} {s t : State} :
    cycleStart kind s = .ok t ↔ ∃ u, encodeDataUp kind (prepareCycle s) = .ok u ∧ u.status.radioReady = true ∧
      Config.chValid u.settings.txCh = true ∧
      t = { ((u.commandMode .standby).transmit
              { frame := u.sequencer.frame, ch := .up u.settings.txCh
                dr := u.settings.txDr.setWidth 8, pwr := u.settings.txPower }).fcntAdvance with
            sequencer.seq := .cycTx } := by
  unfold cycleStart
  cases encodeDataUp kind (prepareCycle s) with
  | error k => simp [bind, Except.bind]
  | ok u =>
    by_cases h : u.status.radioReady = true
    · by_cases hv : Config.chValid u.settings.txCh = true <;>
        simp [radioSetMode, radioTransmit, h, hv, pure, bind, Except.pure, Except.bind, @eq_comm _ t]
    · simp [radioSetMode, h, bind, Except.bind]

theorem openRx1_eq_ok {s t : State} :
    openRx1 s = .ok t ↔ s.status.radioReady = true ∧
      t = { { s with sequencer.tEnd := rx1Close s }.commandMode (.rxcont (.down s.settings.rxCh) s.settings.rxDr) with
            sequencer.seq := .cycRx1 } := by
  by_cases h : s.status.radioReady = true <;>
    simp [openRx1, radioSetMode, h, pure, bind, Except.pure, Except.bind, @eq_comm _ t]

theorem closeRx1_eq_ok {s t : State} :
    closeRx1 s = .ok t ↔ s.status.radioReady = true ∧
      t = { s.commandMode .standby with sequencer.seq := .cycWaitRx2 } := by
  by_cases h : s.status.radioReady = true <;>
    simp [closeRx1, radioSetMode, h, pure, bind, Except.pure, Except.bind, @eq_comm _ t]

theorem openRx2_eq_ok {s t : State} :
    openRx2 s = .ok t ↔ s.status.radioReady = true ∧
      t = { { s with sequencer.tEnd := rx2Close s }.commandMode rx2Listen with sequencer.seq := .cycRx2 } := by
  by_cases h : s.status.radioReady = true <;>
    simp [openRx2, radioSetMode, h, pure, bind, Except.pure, Except.bind, @eq_comm _ t]

/-- CYCLE_END: to standby, or armed on RX2 where Class C is wanted (R311). -/
theorem cycleEnd_eq_ok {s t : State} :
    cycleEnd s = .ok t ↔ s.status.radioReady = true ∧
      ((s.settings.classReq = .a ∧
          t = { { s with status.cmd := .noCommand }.commandMode .standby with sequencer.seq := .idle }.respond
            [0x00#8]) ∨
       (s.settings.classReq = .c ∧
          t = { { s with status.cmd := .noCommand }.commandMode rx2Listen with
                session.classCur := .c, sequencer.seq := .idle }.respond [0x00#8])) := by
  by_cases h : s.status.radioReady = true <;> cases hc : s.settings.classReq <;>
    simp [cycleEnd, radioSetMode, h, hc, pure, bind, Except.pure, Except.bind, @eq_comm _ t]

/-- A payload is stored whole, with its length, the event and the latch; an empty one changes nothing. -/
theorem storePayload_eq_ok {r : DataDownInfo} {s t : State} :
    storePayload r s = .ok t ↔
      (r.payload = [] ∧ t = s) ∨
      (r.payload ≠ [] ∧ r.payload.length ≤ Config.bufCap ∧
        t = { { s with
                  buffers.rxBuf := Memory.writeMany s.buffers.rxBuf 0 r.payload
                  buffers.rxLen := BitVec.ofNat 8 r.payload.length }.emitMessage r.payload r.confirmed r.fport with
              status.rxLatch := true }) := by
  unfold storePayload memWrite
  by_cases hp : r.payload = []
  · simp [@eq_comm _ t, hp]
  · by_cases hl : r.payload.length ≤ Config.bufCap <;>
      simp [hp, hl, pure, bind, Except.pure, Except.bind, @eq_comm _ t]

/-- Taking a frame in a window: the frame is no message, or it is accepted, its result handled and the cycle ended. -/
theorem cycleFrame_eq_ok {f : List Byte} {s t : State} :
    cycleFrame f s = .ok t ↔ s.status.radioReady = true ∧
      ((decodeDataDown s f = none ∧ t = s.readSlot f) ∨
       ∃ r u, decodeDataDown s f = some r ∧ resultA r (s.readSlot f) = .ok u ∧ cycleEnd u = .ok t) := by
  by_cases h : s.status.radioReady = true
  · rw [cycleFrame, radioRead_of_ready f h]
    simp only [bind, Except.bind, h, true_and]
    split
    · simp_all [pure, Except.pure, @eq_comm _ t]
    · next r hr =>
      cases hu : resultA r (s.readSlot f) <;> simp_all
  · simp [cycleFrame, radioRead, h, bind, Except.bind]

/-! ### Queuing and reading (R300, R405) -/

theorem queueUplink_eq_ok {confirm port : Byte} {payload : List Byte} {s t : State} :
    queueUplink confirm port payload s = .ok t ↔ payload.length ≤ Config.bufCap ∧
      t = { s with
            buffers.txBuf := Memory.writeMany s.buffers.txBuf 0 payload
            buffers.txLen := BitVec.ofNat 8 payload.length
            settings.confirm := confirm != 0#8
            settings.mport := port
            status.cmd := .uplink }.respond [0x00#8] := by
  unfold queueUplink memWrite
  by_cases hl : payload.length ≤ Config.bufCap <;>
    simp [hl, pure, bind, Except.pure, Except.bind, @eq_comm _ t]

/-! ### Class C (R352 to R355) -/

theorem disarmTick_eq_ok {s t : State} :
    disarmTick s = .ok t ↔
      (s.session.classCur = .a ∧ t = s) ∨
      (s.session.classCur = .c ∧ s.status.radioReady = true ∧
        t = { s.commandMode .standby with session.classCur := .a }) := by
  cases hc : s.session.classCur <;> by_cases h : s.status.radioReady = true <;>
    simp [disarmTick, radioSetMode, h, hc, pure, bind, Except.pure, Except.bind, @eq_comm _ t]

theorem armClassC_eq_ok {s t : State} :
    armClassC s = .ok t ↔
      (s.session.classCur = .c ∧ t = s) ∨
      (s.session.classCur = .a ∧ s.status.radioReady = true ∧
        t = { s.commandMode rx2Listen with session.classCur := .c }) := by
  cases hc : s.session.classCur <;> by_cases h : s.status.radioReady = true <;>
    simp [armClassC, radioSetMode, h, hc, pure, bind, Except.pure, Except.bind, @eq_comm _ t]

theorem dispatchPayload_eq_ok {r : DataDownInfo} {s t : State} :
    dispatchPayload r s = .ok t ↔
      (r.payload = [] ∧ t = s) ∨
      (r.payload ≠ [] ∧ r.payload.length ≤ Config.bufCap ∧
        t = { s with buffers.rxBuf := Memory.writeMany s.buffers.rxBuf 0 r.payload }.emitMessage
              r.payload r.confirmed r.fport) := by
  unfold dispatchPayload memWrite
  by_cases hp : r.payload = []
  · simp [@eq_comm _ t, hp]
  · by_cases hl : r.payload.length ≤ Config.bufCap <;>
      simp [hp, hl, pure, bind, Except.pure, Except.bind, @eq_comm _ t]

/-- RESULT_C ends with an empty buffer and a cleared latch, whatever the frame was. -/
theorem resultC_eq_ok {r : Option DataDownInfo} {s t : State} :
    resultC r s = .ok t ↔ ∃ u,
      (r = none ∧ u = s ∨ ∃ d, r = some d ∧ dispatchPayload d (s.acceptHeader d) = .ok u) ∧
      t = { u with buffers.rxLen := 0#8, status.rxLatch := false } := by
  cases r with
  | none => simp [resultC, pure, bind, Except.pure, Except.bind, @eq_comm _ t]
  | some d =>
    cases hd : dispatchPayload d (s.acceptHeader d) <;>
      simp [resultC, hd, pure, bind, Except.pure, Except.bind, @eq_comm _ t]

theorem pollClassC_eq_ok {s t : State} :
    pollClassC s = .ok t ↔ s.status.radioReady = true ∧
      ((s.radio.rxSlot = none ∧ t = s) ∨
       ∃ f, s.radio.rxSlot = some f ∧ resultC (decodeDataDown s f) (s.readSlot f) = .ok t) := by
  by_cases h : s.status.radioReady = true <;> cases hs : s.radio.rxSlot <;>
    simp [pollClassC, radioAvailable, radioRead, h, hs, pure, bind, Except.pure, Except.bind, @eq_comm _ t]

/-- CLASS_TICK: disarmed where Class A is wanted, else armed and polled once (R354). -/
theorem classTick_eq_ok {s t : State} :
    classTick s = .ok t ↔
      (s.settings.classReq = .a ∧ ∃ u, disarmTick s = .ok u ∧ t = u.respond [0x00#8]) ∨
      (s.settings.classReq = .c ∧ ∃ u v, armClassC s = .ok u ∧ pollClassC u = .ok v ∧ t = v.respond [0x00#8]) := by
  cases hq : s.settings.classReq with
  | a =>
    cases hd : disarmTick s <;> simp [classTick, hq, hd, pure, bind, Except.pure, Except.bind, @eq_comm _ t]
  | c =>
    cases hd : armClassC s with
    | error k => simp [classTick, hq, hd, bind, Except.bind]
    | ok u =>
      cases hp : pollClassC u <;> simp [classTick, hq, hd, hp, pure, bind, Except.pure, Except.bind, @eq_comm _ t]

/-! ### The crypto port keeps lengths (R90) -/

@[simp] theorem length_cryptList (key : Bytes 16) (dir : BitVec 1) (a : Bytes 4) (c : U16) (data : List Byte) :
    (cryptList key dir a c data).length = data.length := by
  simp [cryptList]

@[simp] theorem length_micDataList (s : State) (dir : BitVec 1) (c : U16) (msg : List Byte) :
    (micDataList s dir c msg).length = 4 := by
  simp [micDataList]

@[simp] theorem length_micJoinList (key : Bytes 16) (msg : List Byte) : (micJoinList key msg).length = 4 := by
  simp [micJoinList]

@[simp] theorem length_jaDecryptList (key : Bytes 16) (data : List Byte) :
    (jaDecryptList key data).length = data.length := by
  simp [jaDecryptList]

/-- A join-request has 23 bytes (R153). -/
@[simp] theorem length_joinRequestFrame (s : State) : (joinRequestFrame s).length = 23 := by
  simp [joinRequestFrame, joinRequestMsg, revBytes]

/-- A data uplink has 13 bytes and its payload's, an ack 12 (R156, R233). -/
theorem length_dataUpFrame (kind : DataKind) (s : State) (payload : List Byte) :
    (dataUpFrame kind s payload).length = if kind = .uplink then 13 + payload.length else 12 := by
  cases kind <;> simp [dataUpFrame, dataUpMsg, dataUpBody, revBytes, le16]
  omega

/-- An accepted payload fits the buffer (R237). -/
theorem payload_length_of_decodeDataDown {s : State} {f : List Byte} {r : DataDownInfo}
    (h : decodeDataDown s f = some r) : r.payload.length ≤ Config.bufCap := by
  simp only [decodeDataDown] at h
  repeat' split at h
  all_goals first
    | (injection h with h; subst h; exact Nat.le_of_not_lt ‹_›)
    | cases h

end Sys2Proof.Machine
end

