-- ==== Sys2Proof/Laws/Step.lean ====
section
/-! SUPPORT. What one step can do, said once: which agent moved, and for CTRL which record, frame or phase it took. -/

namespace Sys2Proof.Machine

/-! ### The step by its move -/

theorem step_of_faulted {s : State} (h : s.faults ≠ []) : step s = .fault .quiescent := by
  unfold step
  split <;> simp_all

theorem step_of_host {s : State} {rec : List Byte} (h : s.faults = []) (hm : s.nextMove = .host rec) :
    step s = .next (hostOffer rec s.takeMove) := by simp [step, h, hm]

theorem step_of_txDone {s : State} (h : s.faults = []) (hm : s.nextMove = .txDone) :
    step s = .next (radioTxDone s.takeMove) := by simp [step, h, hm]

theorem step_of_deliver {s : State} {f : List Byte} (h : s.faults = []) (hm : s.nextMove = .deliver f) :
    step s = .next (radioDeliver f s.takeMove) := by simp [step, h, hm]

theorem step_of_tick {s : State} (h : s.faults = []) (hm : s.nextMove = .tick) :
    step s = .next (clockTick s.takeMove) := by simp [step, h, hm]

theorem step_of_ctrl {s : State} (h : s.faults = []) (hm : s.nextMove = .ctrl) : step s = ctrlStep s.takeMove := by
  simp [step, h, hm]

/-- In a wait phase a CLOCK step adds one to ELAPSED, until it saturates. -/
theorem clockTick_of_timed {s : State} (ht : s.sequencer.seq.timed = true) (h : s.sequencer.elapsed.toNat + 1 < 2 ^ 32) :
    clockTick s = { s with sequencer.elapsed := s.sequencer.elapsed + 1#32 } := by
  have hsat : sat32 s.sequencer.elapsed 1#32 = s.sequencer.elapsed + 1#32 := if_pos h
  rw [clockTick, if_pos ht, hsat]

/-- The five ways a step goes on. -/
theorem step_cases {s t : State} (h : step s = .next t) :
    s.faults = [] ∧
      ((∃ rec, s.nextMove = .host rec ∧ t = hostOffer rec s.takeMove) ∨
       (s.nextMove = .txDone ∧ t = radioTxDone s.takeMove) ∨
       (∃ f, s.nextMove = .deliver f ∧ t = radioDeliver f s.takeMove) ∨
       (s.nextMove = .tick ∧ t = clockTick s.takeMove) ∨
       (s.nextMove = .ctrl ∧ ctrlStep s.takeMove = .next t)) := by
  unfold step at h
  split at h
  · cases h
  · next hf =>
    refine ⟨hf, ?_⟩
    split at h <;> simp_all

/-! ### What CTRL takes -/

/-- A decoded frame is executed as the frame itself, whatever its kind. -/
theorem exec_of_decodeFrame {f : List Byte} {i : Instr} (h : decodeFrame f = .ok i) (s : State) :
    exec i s = receiveFrame f s := by
  obtain ⟨rfl, hc, -⟩ := encode_of_decodeFrame h
  cases i <;> first | rfl | cases hc

/-- With nothing to take from the port or the radio, CTRL's step is the phase's. -/
theorem ctrlStep_of_phase {s : State} (h : fetch s = .phase) : ctrlStep s = phaseStep s := by
  simp [ctrlStep, h]

/-- A frame taken in the join wait goes to the join, one taken in a window to the cycle. -/
theorem receiveFrame_of_joinWait {s : State} (f : List Byte) (h : s.sequencer.seq = .joinWait) :
    receiveFrame f s = conclude opJoin s (joinFrame f s) := by simp [receiveFrame, h]

theorem receiveFrame_of_window {s : State} (f : List Byte) (h : s.sequencer.seq = .cycRx1 ∨ s.sequencer.seq = .cycRx2) :
    receiveFrame f s = conclude opUpdate s (cycleFrame f s) := by
  rcases h with h | h <;> simp [receiveFrame, h]

/-- The three ways CTRL's step goes on: the record, the frame, or the phase. -/
theorem ctrlStep_cases {s t : State} (h : ctrlStep s = .next t) :
    (∃ rec i, s.sequencer.seq = .idle ∧ s.port = some rec ∧ decodeRecord rec = .ok i ∧ exec i s = .next t) ∨
    (∃ rec r, s.sequencer.seq = .idle ∧ s.port = some rec ∧ decodeRecord rec = .error r ∧
      t = s.respond [rejectStatus r]) ∨
    (∃ f, s.radio.rxSlot = some f ∧
      ((s.sequencer.seq = .joinWait ∧ conclude opJoin s (joinFrame f s) = .next t) ∨
       ((s.sequencer.seq = .cycRx1 ∨ s.sequencer.seq = .cycRx2) ∧
         conclude opUpdate s (cycleFrame f s) = .next t))) ∨
    phaseStep s = .next t := by
  unfold ctrlStep at h
  split at h
  · next rec hf =>
    have hp : s.sequencer.seq = .idle ∧ s.port = some rec := by
      unfold fetch at hf
      split at hf <;> (try split at hf) <;> simp_all
    split at h
    · next i hd => exact .inl ⟨rec, i, hp.1, hp.2, hd, h⟩
    · next r hd => exact .inr (.inl ⟨rec, r, hp.1, hp.2, hd, by simpa [rejectRecord, @eq_comm _ t] using h⟩)
  · next f hf =>
    have h : receiveFrame f s = .next t := by
      split at h
      · next i hd => rwa [exec_of_decodeFrame hd] at h
      · exact h
    refine .inr (.inr (.inl ⟨f, ?_⟩))
    unfold fetch at hf
    unfold receiveFrame at h
    split at hf <;> (try split at hf) <;> simp_all
  · exact .inr (.inr (.inr h))

/-- The ways a phase's own step goes on: nothing to do yet, or the phase is left. -/
theorem phaseStep_cases {s t : State} (h : phaseStep s = .next t) :
    t = s ∨
    (s.sequencer.seq = .joinTx ∧ s.radio.txPending = false ∧ conclude opJoin s (joinTxDone s) = .next t) ∨
    (s.sequencer.seq = .joinWait ∧ s.sequencer.tEnd ≤ s.sequencer.elapsed ∧
      conclude opJoin s (joinTimeout s) = .next t) ∨
    (s.sequencer.seq = .cycTx ∧ s.radio.txPending = false ∧ t = cycleTxDone s) ∨
    (s.sequencer.seq = .cycWaitRx1 ∧ s.settings.rx1Delay ≤ s.sequencer.elapsed ∧
      conclude opUpdate s (openRx1 s) = .next t) ∨
    (s.sequencer.seq = .cycRx1 ∧ s.sequencer.tEnd ≤ s.sequencer.elapsed ∧
      conclude opUpdate s (closeRx1 s) = .next t) ∨
    (s.sequencer.seq = .cycWaitRx2 ∧ s.settings.rx2Delay ≤ s.sequencer.elapsed ∧
      conclude opUpdate s (openRx2 s) = .next t) ∨
    (s.sequencer.seq = .cycRx2 ∧ s.sequencer.tEnd ≤ s.sequencer.elapsed ∧
      conclude opUpdate s (cycleEnd s) = .next t) := by
  unfold phaseStep at h
  split at h <;> (try split at h) <;> simp_all [@eq_comm _ t]

/-! ### A step, action by action -/

/-- Every action a step can take leads from a state in `P` to one in `Q`. With `Q` equal to `P` it says that `P` is an
invariant. -/
structure StepLeads (P Q : State → Prop) : Prop where
  takeMove : ∀ s, P s → P s.takeMove
  stay : ∀ s, P s → Q s
  raise : ∀ s k op, P s → Q (s.raise k op)
  host : ∀ rec s, P s → Q (hostOffer rec s)
  txDone : ∀ s, P s → Q (radioTxDone s)
  deliver : ∀ f s, P s → Q (radioDeliver f s)
  tick : ∀ s, P s → Q (clockTick s)
  reject : ∀ s rec r, P s → s.sequencer.seq = .idle → s.port = some rec → Q (s.respond [rejectStatus r])
  command : ∀ i s t rec, P s → s.sequencer.seq = .idle → s.port = some rec → decodeRecord rec = .ok i →
    i.isCommand = true → exec i s = .next t → Q t
  joinFrame : ∀ f s t, P s → s.sequencer.seq = .joinWait → s.radio.rxSlot = some f → Machine.joinFrame f s = .ok t → Q t
  cycleFrame : ∀ f s t, P s → s.sequencer.seq = .cycRx1 ∨ s.sequencer.seq = .cycRx2 → s.radio.rxSlot = some f →
    Machine.cycleFrame f s = .ok t → Q t
  joinTxDone : ∀ s t, P s → s.sequencer.seq = .joinTx → s.radio.txPending = false → Machine.joinTxDone s = .ok t → Q t
  joinTimeout : ∀ s t, P s → s.sequencer.seq = .joinWait → Machine.joinTimeout s = .ok t → Q t
  cycleTxDone : ∀ s, P s → s.sequencer.seq = .cycTx → s.radio.txPending = false → Q (Machine.cycleTxDone s)
  openRx1 : ∀ s t, P s → s.sequencer.seq = .cycWaitRx1 → Machine.openRx1 s = .ok t → Q t
  closeRx1 : ∀ s t, P s → s.sequencer.seq = .cycRx1 → Machine.closeRx1 s = .ok t → Q t
  openRx2 : ∀ s t, P s → s.sequencer.seq = .cycWaitRx2 → Machine.openRx2 s = .ok t → Q t
  cycleEnd : ∀ s t, P s → s.sequencer.seq = .cycRx2 → Machine.cycleEnd s = .ok t → Q t

/-- A concluded action leads to `Q` where what it did is in `Q` and a raised fault leads to `Q`. -/
theorem StepLeads.conclude {P Q : State → Prop} (h : StepLeads P Q) {op : Byte} {s t : State}
    {r : Except ModelFault State} (hs : P s) (hc : Machine.conclude op s r = .next t) (hr : r = .ok t → Q t) : Q t := by
  rcases conclude_eq_next.1 hc with hc | ⟨k, -, rfl⟩
  · exact hr hc
  · exact h.raise s k op hs

/-- The case analysis of one step, done once. -/
theorem StepLeads.step {P Q : State → Prop} (h : StepLeads P Q) {s t : State} (hs : P s)
    (hst : Machine.step s = .next t) : Q t := by
  obtain ⟨-, hcases⟩ := step_cases hst
  have hm := h.takeMove s hs
  rcases hcases with ⟨rec, -, rfl⟩ | ⟨-, rfl⟩ | ⟨f, -, rfl⟩ | ⟨-, rfl⟩ | ⟨-, hc⟩
  · exact h.host rec _ hm
  · exact h.txDone _ hm
  · exact h.deliver f _ hm
  · exact h.tick _ hm
  · rcases ctrlStep_cases hc with ⟨rec, i, hi, hp, hd, hx⟩ | ⟨rec, r, hi, hp, -, rfl⟩ |
      ⟨f, hp, ⟨hq, hx⟩ | ⟨hq, hx⟩⟩ | hx
    · exact h.command i _ _ rec hm hi hp hd (isCommand_of_decodeRecord hd) hx
    · exact h.reject _ rec r hm hi hp
    · exact h.conclude hm hx (h.joinFrame f _ _ hm hq hp)
    · exact h.conclude hm hx (h.cycleFrame f _ _ hm hq hp)
    · rcases phaseStep_cases hx with rfl | ⟨hq, hp, hx⟩ | ⟨hq, -, hx⟩ | ⟨hq, hp, rfl⟩ | ⟨hq, -, hx⟩ | ⟨hq, -, hx⟩ |
        ⟨hq, -, hx⟩ | ⟨hq, -, hx⟩
      · exact h.stay _ hm
      · exact h.conclude hm hx (h.joinTxDone _ _ hm hq hp)
      · exact h.conclude hm hx (h.joinTimeout _ _ hm hq)
      · exact h.cycleTxDone _ hm hq hp
      · exact h.conclude hm hx (h.openRx1 _ _ hm hq)
      · exact h.conclude hm hx (h.closeRx1 _ _ hm hq)
      · exact h.conclude hm hx (h.openRx2 _ _ hm hq)
      · exact h.conclude hm hx (h.cycleEnd _ _ hm hq)

end Sys2Proof.Machine
end

