-- ==== Sys2Proof/Laws/Effects.lean ====
section
/-! SUPPORT. What a command, a Class C tick and an accepted downlink can do to the state, each said once as the list of
its effects: a proof about every step takes these cases instead of unfolding the commands. -/

namespace Sys2Proof.Machine

/-! ### An accepted downlink of a cycle (R310, R311) -/

/-- The state after RESULT, before the cycle ends: the header's effects, and for a payload its bytes, length, event and
latch. -/
inductive ResultEffect (d : DataDownInfo) (s : State) : State → Prop where
  | empty : d.payload = [] → ResultEffect d s (s.acceptHeader d)
  | payload : d.payload ≠ [] → d.payload.length ≤ Config.bufCap → ResultEffect d s
      { { s.acceptHeader d with
            buffers.rxBuf := Memory.writeMany s.buffers.rxBuf 0 d.payload
            buffers.rxLen := BitVec.ofNat 8 d.payload.length }.emitMessage d.payload d.confirmed d.fport with
        status.rxLatch := true }

theorem resultA_effect {d : DataDownInfo} {s t : State} (h : resultA d s = .ok t) : ResultEffect d s t := by
  rcases storePayload_eq_ok.1 h with ⟨hp, rfl⟩ | ⟨hp, hl, rfl⟩
  · exact .empty hp
  · have hb : (s.acceptHeader d).buffers.rxBuf = s.buffers.rxBuf := by simp
    rw [hb]
    exact .payload hp hl

/-! ### The tick (R352 to R355) -/

/-- The state after arming: as it was, or armed on RX2. -/
inductive Armed (s : State) : State → Prop where
  | before : s.session.classCur = .c → Armed s s
  | now : s.session.classCur = .a → s.status.radioReady = true →
      Armed s { s.commandMode rx2Listen with session.classCur := .c }

/-- The effects of CLASS_TICK before its response. -/
inductive TickEffect (s : State) : State → Prop where
  | nothing : s.settings.classReq = .a → s.session.classCur = .a → TickEffect s s
  | disarm : s.settings.classReq = .a → s.session.classCur = .c → s.status.radioReady = true →
      TickEffect s { s.commandMode .standby with session.classCur := .a }
  | armed (u : State) : s.settings.classReq = .c → Armed s u → u.status.radioReady = true → u.radio.rxSlot = none →
      TickEffect s u
  | noMessage (u : State) (f : List Byte) : s.settings.classReq = .c → Armed s u → u.status.radioReady = true →
      u.radio.rxSlot = some f → decodeDataDown u f = none →
      TickEffect s { u.readSlot f with buffers.rxLen := 0#8, status.rxLatch := false }
  | header (u : State) (f : List Byte) (d : DataDownInfo) : s.settings.classReq = .c → Armed s u →
      u.status.radioReady = true → u.radio.rxSlot = some f → decodeDataDown u f = some d → d.payload = [] →
      TickEffect s { (u.readSlot f).acceptHeader d with buffers.rxLen := 0#8, status.rxLatch := false }
  | message (u : State) (f : List Byte) (d : DataDownInfo) : s.settings.classReq = .c → Armed s u →
      u.status.radioReady = true → u.radio.rxSlot = some f → decodeDataDown u f = some d → d.payload ≠ [] →
      d.payload.length ≤ Config.bufCap →
      TickEffect s
        { { (u.readSlot f).acceptHeader d with
              buffers.rxBuf := Memory.writeMany u.buffers.rxBuf 0 d.payload }.emitMessage
            d.payload d.confirmed d.fport with
          buffers.rxLen := 0#8, status.rxLatch := false }

theorem armClassC_effect {s t : State} (h : armClassC s = .ok t) : Armed s t := by
  rcases armClassC_eq_ok.1 h with ⟨hc, rfl⟩ | ⟨hc, hr, rfl⟩
  · exact .before hc
  · exact .now hc hr

theorem classTick_effect {s t : State} (h : classTick s = .ok t) : ∃ u, TickEffect s u ∧ t = u.respond [0x00#8] := by
  rcases classTick_eq_ok.1 h with ⟨hq, u, hu, rfl⟩ | ⟨hq, u, v, hu, hv, rfl⟩
  · rcases disarmTick_eq_ok.1 hu with ⟨hc, rfl⟩ | ⟨hc, hr, rfl⟩
    · exact ⟨_, .nothing hq hc, rfl⟩
    · exact ⟨_, .disarm hq hc hr, rfl⟩
  · have ha := armClassC_effect hu
    obtain ⟨hr, ⟨hn, rfl⟩ | ⟨f, hf, hres⟩⟩ := pollClassC_eq_ok.1 hv
    · exact ⟨_, .armed _ hq ha hr hn, rfl⟩
    · obtain ⟨w, hw, rfl⟩ := resultC_eq_ok.1 hres
      refine ⟨_, ?_, rfl⟩
      rcases hw with ⟨hd, rfl⟩ | ⟨d, hd, hp⟩
      · exact .noMessage u f hq ha hr hf hd
      · rcases dispatchPayload_eq_ok.1 hp with ⟨he, rfl⟩ | ⟨he, hl, rfl⟩
        · exact .header u f d hq ha hr hf hd he
        · have hb : ((u.readSlot f).acceptHeader d).buffers.rxBuf = u.buffers.rxBuf := by simp
          rw [hb]
          exact .message u f d hq ha hr hf hd he hl

/-! ### The commands -/

/-- The effects of a command that answers at once, before its response. -/
inductive CommandEffect (s : State) : Instr → State → Prop where
  | devEui (text : List Byte) : CommandEffect s (.setDeveui text)
      ({ s with identity.devEui := hexDecode text 8 s.schedule.draws }.countDraws 8).sessionReset
  | appEui (text : List Byte) : CommandEffect s (.setAppeui text)
      ({ s with identity.appEui := hexDecode text 8 s.schedule.draws }.countDraws 8).sessionReset
  | appKey (text : List Byte) : CommandEffect s (.setAppkey text)
      ({ s with identity.appKey := hexDecode text 16 s.schedule.draws }.countDraws 16).sessionReset
  | nwkSKey (text : List Byte) : CommandEffect s (.setNwkskey text)
      ({ s with session.nwkSKey := hexDecode text 16 s.schedule.draws }.countDraws 16).sessionReset
  | appSKey (text : List Byte) : CommandEffect s (.setAppskey text)
      ({ s with session.appSKey := hexDecode text 16 s.schedule.draws }.countDraws 16).sessionReset
  | devAddr (text : List Byte) : CommandEffect s (.setDevaddr text)
      ({ s with session.devAddr := hexDecode text 4 s.schedule.draws }.countDraws 4).sessionReset
  /-- SET_FCNT_TX, SET_FCNT_RX. -/
  | fcntTx (v : U16) : CommandEffect s (.setFcntTx v) { s with session.fcntTx := v }
  | fcntRx (v : U16) : CommandEffect s (.setFcntRx v) { s with session.fcntRx := v }
  /-- The channel, rate, power and class setters that write no window. -/
  | setTxCh (c : BitVec 3) (m : ChMode) (i : Instr) : CommandEffect s i ({ s with settings.chMode := m }.setTxCh c)
  | chMode (m : ChMode) (i : Instr) : CommandEffect s i { s with settings.chMode := m }
  | setTxDr (d : BitVec 3) (i : Instr) : d.toNat ≤ Config.maxDr → CommandEffect s i (s.setTxDr d)
  | power (p : Byte) (i : Instr) : CommandEffect s i { s with settings.txPower := p }
  | classReq (k : DevClass) (i : Instr) : CommandEffect s i { s with settings.classReq := k }
  /-- The window setters. -/
  | rx1Window (v : U32) (i : Instr) : CommandEffect s i { s with settings.rx1Window := v }.clampRx2
  | rx1Delay (v : U32) (i : Instr) : CommandEffect s i { s with settings.rx1Delay := v }.clampRx2
  | rx2Delay (v : U32) (i : Instr) : CommandEffect s i { s with settings.rx2Delay := v }.clampRx2
  | rx2Window (v : U32) (i : Instr) : CommandEffect s i { s with settings.rx2Window := v }
  /-- INIT, with the radio's answer true or false; GET_RSSI draws too. -/
  | initialised (seed : U32) : CommandEffect s (.init seed)
      (initialise seed { s with schedule.draws := s.schedule.draws + 1 })
  | drew (i : Instr) : CommandEffect s i { s with schedule.draws := s.schedule.draws + 1 }
  /-- SLEEP, WAKEUP. -/
  | mode (m : RadioMode) (i : Instr) : m = .sleep ∨ m = .standby → s.status.radioReady = true →
      CommandEffect s i { s.commandMode m with session.classCur := .a }
  /-- SEND_UPLINK, SEND_ACK. -/
  | queued (confirm : Bool) (port : Byte) (p : List Byte) (i : Instr) : p.length ≤ Config.bufCap → CommandEffect s i
      { s with
        buffers.txBuf := Memory.writeMany s.buffers.txBuf 0 p
        buffers.txLen := BitVec.ofNat 8 p.length
        settings.confirm := confirm
        settings.mport := port
        status.cmd := .uplink }
  | ackQueued : CommandEffect s .sendAck { s with status.cmd := .ack }
  /-- READ_DATA, READ_ACK, REGISTER_ON_MESSAGE. -/
  | dataRead : s.status.rxLatch = true → CommandEffect s .readData { s with status.rxLatch := false }
  | ackRead : CommandEffect s .readAck { s with status.ackLatch := false }
  | callback (b : Bool) (i : Instr) : CommandEffect s i { s with status.cbEn := b }
  /-- The getters, and a command with nothing to do. -/
  | nothing (i : Instr) : CommandEffect s i s
  /-- UPDATE with nothing pending. -/
  | tick (t : State) : s.status.cmd = .noCommand ∨ s.status.cmd = .join → TickEffect s t → CommandEffect s .update t

/-- A command raises a fault, answers with one of its effects, or starts a join or a cycle. -/
theorem exec_command {i : Instr} {s t : State} (hc : i.isCommand = true) (h : exec i s = .next t) :
    (∃ k op, t = s.raise k op) ∨ (∃ u b, CommandEffect s i u ∧ t = u.respond b) ∨
    (i = .join ∧ startJoin s = .ok t) ∨
    (i = .update ∧ ((s.status.cmd = .uplink ∧ cycleStart .uplink s = .ok t) ∨
      (s.status.cmd = .ack ∧ cycleStart .ack s = .ok t))) := by
  have answer : ∀ {u : State} {b : List Byte}, CommandEffect s i u →
      (Host.Outcome.next (u.respond b) : Host.Outcome State Fault Refusal) = .next t →
      ∃ u b, CommandEffect s i u ∧ t = u.respond b := by
    intro u b he hn
    injection hn with hn
    exact ⟨u, b, he, hn.symm⟩
  cases i
  case setDeveui text => exact .inr (.inl (answer (.devEui text) h))
  case setAppeui text => exact .inr (.inl (answer (.appEui text) h))
  case setAppkey text => exact .inr (.inl (answer (.appKey text) h))
  case setNwkskey text => exact .inr (.inl (answer (.nwkSKey text) h))
  case setAppskey text => exact .inr (.inl (answer (.appSKey text) h))
  case setDevaddr text => exact .inr (.inl (answer (.devAddr text) h))
  case setFcntTx v => exact .inr (.inl (answer (.fcntTx v) h))
  case setFcntRx v => exact .inr (.inl (answer (.fcntRx v) h))
  case getFcntTx => exact .inr (.inl (answer (.nothing _) h))
  case getFcntRx => exact .inr (.inl (answer (.nothing _) h))
  case setTxpower p => exact .inr (.inl (answer (.power p _) h))
  case setDatarate d =>
    refine .inr (.inl (answer (u := selectDatarate d s) ?_ h))
    unfold selectDatarate
    split
    · exact .setTxDr _ _ (by rw [BitVec.toNat_setWidth]; exact le_trans (Nat.mod_le _ _) ‹_›)
    · exact .nothing _
  case setChannel c =>
    refine .inr (.inl (answer (u := selectChannel c s) ?_ h))
    unfold selectChannel
    split
    · exact .setTxCh _ .fixed _
    · split
      · exact .chMode .multi _
      · exact .nothing _
  case getChannel => exact .inr (.inl (answer (.nothing _) h))
  case getDatarate => exact .inr (.inl (answer (.nothing _) h))
  case setRx1Window v => exact .inr (.inl (answer (.rx1Window v _) h))
  case setRx2Window v => exact .inr (.inl (answer (.rx2Window v _) h))
  case setRx1Delay v => exact .inr (.inl (answer (.rx1Delay v _) h))
  case setRx2Delay v => exact .inr (.inl (answer (.rx2Delay v _) h))
  case setDeviceClass c =>
    refine .inr (.inl (answer (u := selectClass c s) ?_ h))
    unfold selectClass
    split
    · exact .classReq .a _
    · split
      · exact .classReq .c _
      · exact .nothing _
  case init seed =>
    simp only [exec, execInit, radioInit] at h
    cases ha : Config.radioInitAnswer s.schedule.draws <;> simp only [ha] at h
    · exact .inr (.inl (answer (.drew _) h))
    · exact .inr (.inl (answer (.initialised seed) h))
  case join =>
    rcases conclude_eq_next.1 h with hx | ⟨k, -, rfl⟩
    · exact .inr (.inr (.inl ⟨rfl, hx⟩))
    · exact .inl ⟨k, _, rfl⟩
  case sleep =>
    rcases conclude_eq_next.1 h with hx | ⟨k, -, rfl⟩
    · simp only [radioSetMode] at hx
      split at hx <;> cases hx
      exact .inr (.inl ⟨_, _, .mode .sleep _ (.inl rfl) ‹_›, rfl⟩)
    · exact .inl ⟨k, _, rfl⟩
  case wakeup =>
    rcases conclude_eq_next.1 h with hx | ⟨k, -, rfl⟩
    · simp only [radioSetMode] at hx
      split at hx <;> cases hx
      exact .inr (.inl ⟨_, _, .mode .standby _ (.inr rfl) ‹_›, rfl⟩)
    · exact .inl ⟨k, _, rfl⟩
  case sendUplink confirm port p =>
    rcases conclude_eq_next.1 h with hx | ⟨k, -, rfl⟩
    · split at hx
      · cases hx
        exact .inr (.inl ⟨_, _, .nothing _, rfl⟩)
      · obtain ⟨hl, rfl⟩ := queueUplink_eq_ok.1 hx
        exact .inr (.inl ⟨_, _, .queued _ port p _ hl, rfl⟩)
    · exact .inl ⟨k, _, rfl⟩
  case sendAck => exact .inr (.inl (answer .ackQueued h))
  case readData =>
    rcases conclude_eq_next.1 h with hx | ⟨k, -, rfl⟩
    · split at hx
      · simp only [memRead] at hx
        split at hx <;> cases hx
        exact .inr (.inl ⟨_, _, .dataRead ‹_›, rfl⟩)
      · cases hx
        exact .inr (.inl ⟨_, _, .nothing _, rfl⟩)
    · exact .inl ⟨k, _, rfl⟩
  case readAck => exact .inr (.inl (answer .ackRead h))
  case registerOnMessage e => exact .inr (.inl (answer (.callback _ _) h))
  case getRssi =>
    rcases conclude_eq_next.1 h with hx | ⟨k, -, rfl⟩
    · simp only [radioRssi] at hx
      split at hx <;> cases hx
      exact .inr (.inl ⟨_, _, .drew _, rfl⟩)
    · exact .inl ⟨k, _, rfl⟩
  case update =>
    rcases conclude_eq_next.1 h with hx | ⟨k, -, rfl⟩
    · unfold updateStep at hx
      split at hx
      · exact .inr (.inr (.inr ⟨rfl, .inl ⟨‹_›, hx⟩⟩))
      · exact .inr (.inr (.inr ⟨rfl, .inr ⟨‹_›, hx⟩⟩))
      · obtain ⟨u, hu, rfl⟩ := classTick_effect hx
        exact .inr (.inl ⟨u, _, .tick u (.inl ‹_›) hu, rfl⟩)
      · obtain ⟨u, hu, rfl⟩ := classTick_effect hx
        exact .inr (.inl ⟨u, _, .tick u (.inr ‹_›) hu, rfl⟩)
    · exact .inl ⟨k, _, rfl⟩
  all_goals cases hc

end Sys2Proof.Machine
end

