-- ==== Sys2Proof/Laws/PerInstr.lean ====
section
/-! SUPPORT. The family MatchesTableRow: what each constructor encodes is words of its own row of
spec/opcode_table.json. -/

namespace Sys2Proof.Laws

/-- The first byte of the instruction's encoding, under its row's mask, is its row's match value (30_encoding.md R132,
R163). -/
def MatchesTableRow.Statement (i : Instr) : Prop :=
  ∃ b rest, encode i = b :: rest ∧ b &&& i.tableRow.2 = i.tableRow.1

/-- MHDR under the mask of the frame rows is MType in its place, whatever the five low bits are (R151). -/
theorem mhdrOf_and_mask (m : BitVec 3) (low : BitVec 5) : mhdrOf m low &&& 0xE0#8 = mhdrOf m 0#5 := by
  revert m low
  decide

end Sys2Proof.Laws

namespace Sys2Proof.Laws.MatchesTableRow

theorem setDeveui (text : List Byte) : Statement (.setDeveui text) :=
  ⟨_, _, rfl, (by decide : (0x01#8 &&& 0xFF#8 : Byte) = 0x01#8)⟩

theorem setAppeui (text : List Byte) : Statement (.setAppeui text) :=
  ⟨_, _, rfl, (by decide : (0x02#8 &&& 0xFF#8 : Byte) = 0x02#8)⟩

theorem setAppkey (text : List Byte) : Statement (.setAppkey text) :=
  ⟨_, _, rfl, (by decide : (0x03#8 &&& 0xFF#8 : Byte) = 0x03#8)⟩

theorem setNwkskey (text : List Byte) : Statement (.setNwkskey text) :=
  ⟨_, _, rfl, (by decide : (0x04#8 &&& 0xFF#8 : Byte) = 0x04#8)⟩

theorem setAppskey (text : List Byte) : Statement (.setAppskey text) :=
  ⟨_, _, rfl, (by decide : (0x05#8 &&& 0xFF#8 : Byte) = 0x05#8)⟩

theorem setDevaddr (text : List Byte) : Statement (.setDevaddr text) :=
  ⟨_, _, rfl, (by decide : (0x06#8 &&& 0xFF#8 : Byte) = 0x06#8)⟩

theorem setFcntTx (v : U16) : Statement (.setFcntTx v) :=
  ⟨_, _, rfl, (by decide : (0x07#8 &&& 0xFF#8 : Byte) = 0x07#8)⟩

theorem setFcntRx (v : U16) : Statement (.setFcntRx v) :=
  ⟨_, _, rfl, (by decide : (0x08#8 &&& 0xFF#8 : Byte) = 0x08#8)⟩

theorem getFcntTx : Statement .getFcntTx :=
  ⟨_, _, rfl, (by decide : (0x09#8 &&& 0xFF#8 : Byte) = 0x09#8)⟩

theorem getFcntRx : Statement .getFcntRx :=
  ⟨_, _, rfl, (by decide : (0x0A#8 &&& 0xFF#8 : Byte) = 0x0A#8)⟩

theorem setTxpower (p : Byte) : Statement (.setTxpower p) :=
  ⟨_, _, rfl, (by decide : (0x10#8 &&& 0xFF#8 : Byte) = 0x10#8)⟩

theorem setDatarate (d : Byte) : Statement (.setDatarate d) :=
  ⟨_, _, rfl, (by decide : (0x11#8 &&& 0xFF#8 : Byte) = 0x11#8)⟩

theorem setChannel (c : Byte) : Statement (.setChannel c) :=
  ⟨_, _, rfl, (by decide : (0x12#8 &&& 0xFF#8 : Byte) = 0x12#8)⟩

theorem getChannel : Statement .getChannel :=
  ⟨_, _, rfl, (by decide : (0x13#8 &&& 0xFF#8 : Byte) = 0x13#8)⟩

theorem getDatarate : Statement .getDatarate :=
  ⟨_, _, rfl, (by decide : (0x14#8 &&& 0xFF#8 : Byte) = 0x14#8)⟩

theorem setRx1Window (v : U32) : Statement (.setRx1Window v) :=
  ⟨_, _, rfl, (by decide : (0x18#8 &&& 0xFF#8 : Byte) = 0x18#8)⟩

theorem setRx2Window (v : U32) : Statement (.setRx2Window v) :=
  ⟨_, _, rfl, (by decide : (0x19#8 &&& 0xFF#8 : Byte) = 0x19#8)⟩

theorem setRx1Delay (v : U32) : Statement (.setRx1Delay v) :=
  ⟨_, _, rfl, (by decide : (0x1A#8 &&& 0xFF#8 : Byte) = 0x1A#8)⟩

theorem setRx2Delay (v : U32) : Statement (.setRx2Delay v) :=
  ⟨_, _, rfl, (by decide : (0x1B#8 &&& 0xFF#8 : Byte) = 0x1B#8)⟩

theorem setDeviceClass (c : Byte) : Statement (.setDeviceClass c) :=
  ⟨_, _, rfl, (by decide : (0x1C#8 &&& 0xFF#8 : Byte) = 0x1C#8)⟩

theorem init (seed : U32) : Statement (.init seed) :=
  ⟨_, _, rfl, (by decide : (0x20#8 &&& 0xFF#8 : Byte) = 0x20#8)⟩

theorem join : Statement .join :=
  ⟨_, _, rfl, (by decide : (0x21#8 &&& 0xFF#8 : Byte) = 0x21#8)⟩

theorem sleep : Statement .sleep :=
  ⟨_, _, rfl, (by decide : (0x22#8 &&& 0xFF#8 : Byte) = 0x22#8)⟩

theorem wakeup : Statement .wakeup :=
  ⟨_, _, rfl, (by decide : (0x23#8 &&& 0xFF#8 : Byte) = 0x23#8)⟩

theorem sendUplink (confirm port : Byte) (payload : List Byte) : Statement (.sendUplink confirm port payload) :=
  ⟨_, _, rfl, (by decide : (0x28#8 &&& 0xFF#8 : Byte) = 0x28#8)⟩

theorem sendAck : Statement .sendAck :=
  ⟨_, _, rfl, (by decide : (0x29#8 &&& 0xFF#8 : Byte) = 0x29#8)⟩

theorem readData : Statement .readData :=
  ⟨_, _, rfl, (by decide : (0x2A#8 &&& 0xFF#8 : Byte) = 0x2A#8)⟩

theorem readAck : Statement .readAck :=
  ⟨_, _, rfl, (by decide : (0x2B#8 &&& 0xFF#8 : Byte) = 0x2B#8)⟩

theorem registerOnMessage (e : Byte) : Statement (.registerOnMessage e) :=
  ⟨_, _, rfl, (by decide : (0x2C#8 &&& 0xFF#8 : Byte) = 0x2C#8)⟩

theorem getRssi : Statement .getRssi :=
  ⟨_, _, rfl, (by decide : (0x30#8 &&& 0xFF#8 : Byte) = 0x30#8)⟩

theorem update : Statement .update :=
  ⟨_, _, rfl, (by decide : (0x3F#8 &&& 0xFF#8 : Byte) = 0x3F#8)⟩

theorem joinRequest (low : BitVec 5) (body : List Byte) : Statement (.joinRequest low body) :=
  ⟨_, _, rfl, mhdrOf_and_mask _ low⟩

theorem joinAccept (low : BitVec 5) (body : List Byte) : Statement (.joinAccept low body) :=
  ⟨_, _, rfl, mhdrOf_and_mask _ low⟩

theorem unconfirmedDataUp (low : BitVec 5) (body : List Byte) : Statement (.unconfirmedDataUp low body) :=
  ⟨_, _, rfl, mhdrOf_and_mask _ low⟩

theorem unconfirmedDataDown (low : BitVec 5) (body : List Byte) : Statement (.unconfirmedDataDown low body) :=
  ⟨_, _, rfl, mhdrOf_and_mask _ low⟩

theorem confirmedDataUp (low : BitVec 5) (body : List Byte) : Statement (.confirmedDataUp low body) :=
  ⟨_, _, rfl, mhdrOf_and_mask _ low⟩

theorem confirmedDataDown (low : BitVec 5) (body : List Byte) : Statement (.confirmedDataDown low body) :=
  ⟨_, _, rfl, mhdrOf_and_mask _ low⟩

theorem rfuMtype (low : BitVec 5) (body : List Byte) : Statement (.rfuMtype low body) :=
  ⟨_, _, rfl, mhdrOf_and_mask _ low⟩

theorem proprietary (low : BitVec 5) (body : List Byte) : Statement (.proprietary low body) :=
  ⟨_, _, rfl, mhdrOf_and_mask _ low⟩

end Sys2Proof.Laws.MatchesTableRow
end

