-- ==== Sys2Proof/Laws/Run.lean ====
section
/-! SUPPORT. Runs of several steps: how they are cut into parts, what CLOCK's steps do in a wait phase, and what can
still happen in a run that is over. -/

namespace Sys2Proof.Machine

/-- `runSteps` is the host's own run of this machine. -/
theorem runSteps_eq_run (n : Nat) (s : State) : runSteps n s = Host.Core.run Sys2Proof.core n s := by
  induction n generalizing s with
  | zero => rfl
  | succ n ih =>
    cases hs : step s with
    | next t =>
      have hc : Sys2Proof.core.step s = .next t := hs
      simp only [runSteps, hs, Host.Core.run, hc]
      exact ih t
    | fault r =>
      have hc : Sys2Proof.core.step s = .fault r := hs
      simp only [runSteps, hs, Host.Core.run, hc]
      rfl
    | refused r =>
      have hc : Sys2Proof.core.step s = .refused r := hs
      simp only [runSteps, hs, Host.Core.run, hc]
      rfl

/-- A run goes on from where its first part ended. -/
theorem runSteps_add {a b : Nat} {s t : State} (h : runSteps a s = .next t) : runSteps (a + b) s = runSteps b t := by
  induction a generalizing s with
  | zero =>
    injection h with h
    rw [Nat.zero_add, h]
  | succ a ih =>
    rw [Nat.succ_add_eq_add_succ, Nat.add_succ]
    rw [runSteps] at h ⊢
    cases hs : step s <;> simp only [hs] at h ⊢
    · exact ih h
    · cases h
    · cases h

theorem runSteps_one {s t : State} (h : step s = .next t) : runSteps 1 s = .next t := by
  simp only [runSteps, h]

/-- In a wait phase `n` CLOCK steps add `n` to ELAPSED, as long as it does not saturate, and change nothing else. -/
theorem runSteps_ticks {n : Nat} {s : State} (rest : List Config.Move) (hf : s.faults = [])
    (ht : s.sequencer.seq.timed = true) (ha : s.schedule.agenda = List.replicate n Config.Move.tick ++ rest)
    (hl : s.sequencer.elapsed.toNat + n < 2 ^ 32) :
    runSteps n s = .next { s with
      sequencer.elapsed := BitVec.ofNat 32 (s.sequencer.elapsed.toNat + n)
      schedule.agenda := rest
      schedule.moves := s.schedule.moves + n } := by
  induction n generalizing s with
  | zero =>
    have ha : rest = s.schedule.agenda := by simpa using ha.symm
    simp [runSteps, ha]
  | succ n ih =>
    have hm : s.nextMove = .tick := by simp [State.nextMove, ha, List.replicate_succ]
    have he : (s.sequencer.elapsed + 1#32).toNat = s.sequencer.elapsed.toNat + 1 := by
      rw [BitVec.toNat_add, BitVec.toNat_ofNat]
      omega
    have hc := clockTick_of_timed (s := s.takeMove) ht
      (by simp only [State.takeMove_sequencer]; omega)
    simp only [runSteps, step_of_tick hf hm, hc]
    rw [ih]
    rotate_left
    · exact hf
    · exact ht
    · simp [ha, List.replicate_succ]
    · simp only [State.takeMove_sequencer, he]
      omega
    have h1 : s.sequencer.elapsed.toNat + 1 + n = s.sequencer.elapsed.toNat + (n + 1) := by omega
    have h2 : s.schedule.moves + 1 + n = s.schedule.moves + (n + 1) := by omega
    simp [he, h1, h2]

/-! ### A run that is over (R545) -/

/-- Where HOST has no further record, the next move is not HOST's. -/
theorem State.hostDone.nextMove_ne {s : State} (h : s.hostDone) (rec : List Byte) : s.nextMove ≠ .host rec := by
  unfold State.nextMove
  split
  · next m l ha =>
    rintro rfl
    exact h.1 rec (by simp [ha])
  · next ha => exact h.2 _ (by simp [ha]) rec

/-- HOST has no further record after any move either. -/
theorem State.hostDone.takeMove {s : State} (h : s.hostDone) : s.takeMove.hostDone := by
  refine ⟨fun rec hm => h.1 rec (List.mem_of_mem_tail (by simpa using hm)), fun n hn => h.2 n ?_⟩
  simp only [State.takeMove_schedule, List.length_tail] at hn
  omega

/-- A run that is over stays over: a step can only put a frame into RX_SLOT and take a move (R545). -/
theorem State.runOver_step {s t : State} (ho : s.runOver) (h : step s = .next t) :
    t.runOver ∧ t = { s.takeMove with radio.rxSlot := t.radio.rxSlot } := by
  obtain ⟨hs, hp, hf, hx, hd⟩ := ho
  have keep : s.takeMove.runOver := ⟨hs, hp, hf, hx, hd.takeMove⟩
  rcases (step_cases h).2 with ⟨rec, hm, -⟩ | ⟨-, rfl⟩ | ⟨f, -, rfl⟩ | ⟨-, rfl⟩ | ⟨-, hc⟩
  · exact absurd hm (hd.nextMove_ne rec)
  · rw [show radioTxDone s.takeMove = s.takeMove by simp [radioTxDone, hx]]
    exact ⟨keep, rfl⟩
  · unfold radioDeliver
    split
    · exact ⟨keep, rfl⟩
    · exact ⟨keep, rfl⟩
  · rw [show clockTick s.takeMove = s.takeMove by simp [clockTick, hs, Phase.timed]]
    exact ⟨keep, rfl⟩
  · have hq : s.takeMove.sequencer.seq = .idle := hs
    have ht : s.takeMove.port = none := hp
    simp only [ctrlStep, fetch, phaseStep, hq, ht] at hc
    injection hc with hc
    exact hc ▸ ⟨keep, rfl⟩

end Sys2Proof.Machine
end

