-- ==== Sys2Proof/Tests/Slice0.lean ====
section
/-! SUPPORT. Tests: the operand checks, words written out from the spec's encodings, single steps whose expected values
are the spec's vectors (95_test_vectors.md, named at each test), and for each obligation with hypotheses a witness that
meets them. -/

namespace Sys2Proof.Tests

open Sys2Proof.Machine Sys2Proof.Claims

/-! ### Ill-formed terms are refused -/

theorem test_wellFormed_setDeveui : (Instr.setDeveui (List.replicate 15 0x30#8)).wellFormed = false := by decide
theorem test_wellFormed_setAppeui : (Instr.setAppeui (List.replicate 17 0x30#8)).wellFormed = false := by decide
theorem test_wellFormed_setAppkey : (Instr.setAppkey (List.replicate 31 0x30#8)).wellFormed = false := by decide
theorem test_wellFormed_setNwkskey : (Instr.setNwkskey (List.replicate 33 0x30#8)).wellFormed = false := by decide
theorem test_wellFormed_setAppskey : (Instr.setAppskey []).wellFormed = false := by decide
theorem test_wellFormed_setDevaddr : (Instr.setDevaddr (List.replicate 9 0x30#8)).wellFormed = false := by decide
theorem test_wellFormed_sendUplink : (Instr.sendUplink 0 1 (List.replicate 256 0#8)).wellFormed = false := by
  simp only [Instr.wellFormed, List.length_replicate]
  decide
theorem test_wellFormed_frames :
    (Instr.joinRequest 0 (List.replicate 255 0#8)).wellFormed = false ∧
    (Instr.joinAccept 0 (List.replicate 255 0#8)).wellFormed = false ∧
    (Instr.unconfirmedDataUp 0 (List.replicate 255 0#8)).wellFormed = false ∧
    (Instr.unconfirmedDataDown 0 (List.replicate 255 0#8)).wellFormed = false ∧
    (Instr.confirmedDataUp 0 (List.replicate 255 0#8)).wellFormed = false ∧
    (Instr.confirmedDataDown 0 (List.replicate 255 0#8)).wellFormed = false ∧
    (Instr.rfuMtype 0 (List.replicate 255 0#8)).wellFormed = false ∧
    (Instr.proprietary 0 (List.replicate 255 0#8)).wellFormed = false := by
  simp only [Instr.wellFormed, List.length_replicate]
  decide

/-! ### Words written out from the encodings (R132; V1, V7, V8, V50 to V66, V70, V80 to V95, P1, P2) -/

/-- The text "0004A30B001C0530" (P2). -/
abbrev deveuiText : List Byte :=
  [0x30, 0x30, 0x30, 0x34, 0x41, 0x33, 0x30, 0x42, 0x30, 0x30, 0x31, 0x43, 0x30, 0x35, 0x33, 0x30]

/-- The text "101112131415161718191A1B1C1D1E1F" (P1). -/
abbrev appskeyText : List Byte :=
  [0x31, 0x30, 0x31, 0x31, 0x31, 0x32, 0x31, 0x33, 0x31, 0x34, 0x31, 0x35, 0x31, 0x36, 0x31, 0x37] ++
  [0x31, 0x38, 0x31, 0x39, 0x31, 0x41, 0x31, 0x42, 0x31, 0x43, 0x31, 0x44, 0x31, 0x45, 0x31, 0x46]

/-- The text "26011BDA" (V1). -/
abbrev devaddrText : List Byte := [0x32, 0x36, 0x30, 0x31, 0x31, 0x42, 0x44, 0x41]

theorem test_decode_identity :
    decodeRecord (0x01 :: deveuiText) = .ok (.setDeveui deveuiText) ∧
    decodeRecord (0x02 :: deveuiText) = .ok (.setAppeui deveuiText) ∧
    decodeRecord (0x03 :: appskeyText) = .ok (.setAppkey appskeyText) ∧
    decodeRecord (0x04 :: appskeyText) = .ok (.setNwkskey appskeyText) ∧
    decodeRecord (0x05 :: appskeyText) = .ok (.setAppskey appskeyText) ∧
    decodeRecord (0x06 :: devaddrText) = .ok (.setDevaddr devaddrText) := ⟨rfl, rfl, rfl, rfl, rfl, rfl⟩

theorem test_decode_counters :
    decodeRecord [0x07, 0x34, 0x12] = .ok (.setFcntTx 0x1234) ∧
    decodeRecord [0x08, 0xFE, 0xFF] = .ok (.setFcntRx 65534) ∧
    decodeRecord [0x09] = .ok .getFcntTx ∧ decodeRecord [0x0A] = .ok .getFcntRx := ⟨rfl, rfl, rfl, rfl⟩

theorem test_decode_channel_rate :
    decodeRecord [0x10, 0xFF] = .ok (.setTxpower 255) ∧ decodeRecord [0x11, 0x03] = .ok (.setDatarate 3) ∧
    decodeRecord [0x12, 0x02] = .ok (.setChannel 2) ∧ decodeRecord [0x12, 0x08] = .ok .setChannelMulti ∧
    decodeRecord [0x13] = .ok .getChannel ∧ decodeRecord [0x14] = .ok .getDatarate :=
  ⟨rfl, rfl, rfl, rfl, rfl, rfl⟩

theorem test_decode_windows :
    decodeRecord [0x18, 0xDC, 0x05, 0x00, 0x00] = .ok (.setRx1Window 1500) ∧
    decodeRecord [0x19, 0xF4, 0x01, 0x00, 0x00] = .ok (.setRx2Window 500) ∧
    decodeRecord [0x1A, 0xE8, 0x03, 0x00, 0x00] = .ok (.setRx1Delay 1000) ∧
    decodeRecord [0x1B, 0xB0, 0x04, 0x00, 0x00] = .ok (.setRx2Delay 1200) := ⟨rfl, rfl, rfl, rfl⟩

theorem test_decode_lifecycle :
    decodeRecord [0x1C, 0x02] = .ok .setDeviceClassC ∧ decodeRecord [0x1C, 0x00] = .ok .setDeviceClassA ∧
    decodeRecord [0x20, 0x04, 0x03, 0x02, 0x01] = .ok (.init 0x01020304) ∧ decodeRecord [0x21] = .ok .join ∧
    decodeRecord [0x22] = .ok .sleep ∧ decodeRecord [0x23] = .ok .wakeup := ⟨rfl, rfl, rfl, rfl, rfl, rfl⟩

theorem test_decode_data_path :
    decodeRecord [0x28, 0x02, 0x00, 0x05, 0x41, 0x42] = .ok (.sendUnconfirmed 5 [0x41, 0x42]) ∧
    decodeRecord [0x28, 0x02, 0x01, 0x01, 0x41, 0x42] = .ok (.sendConfirmed 1 [0x41, 0x42]) ∧
    decodeRecord [0x29] = .ok .sendAck ∧ decodeRecord [0x2A] = .ok .readData ∧ decodeRecord [0x2B] = .ok .readAck ∧
    decodeRecord [0x2C, 0x07] = .ok (.registerOnMessage 7) ∧ decodeRecord [0x30] = .ok .getRssi ∧
    decodeRecord [0x3F] = .ok .update := ⟨rfl, rfl, rfl, rfl, rfl, rfl, rfl, rfl⟩

/-- V6, V53, V101. -/
theorem test_decode_rejects :
    decodeRecord [0x06, 0x32, 0x36, 0x30, 0x31] = .error .badLength ∧
    decodeRecord [0x28, 0x03, 0x00, 0x05, 0x41, 0x42] = .error .badLength ∧
    decodeRecord [0x0B] = .error .badOpcode ∧ decodeRecord [0x40, 0x00] = .error .badOpcode ∧
    decodeRecord [] = .error .badLength ∧ decodeRecord [0x09, 0x00] = .error .badLength :=
  ⟨rfl, rfl, rfl, rfl, rfl, rfl⟩

/-- The first bytes of V20 to V24 and V28, and MHDR bytes of the two kinds without a layout (R152). -/
theorem test_decode_frames :
    decodeFrame [0x00, 0xA6, 0x01] = .ok (.joinRequest 0 [0xA6, 0x01]) ∧
    decodeFrame [0x20, 0x0F, 0x4B] = .ok (.joinAccept 0 [0x0F, 0x4B]) ∧
    decodeFrame [0x40, 0xDA, 0x1B] = .ok (.unconfirmedDataUp 0 [0xDA, 0x1B]) ∧
    decodeFrame [0x60, 0xDA, 0x1B] = .ok (.unconfirmedDataDown 0 [0xDA, 0x1B]) ∧
    decodeFrame [0x80, 0xDA, 0x1B] = .ok (.confirmedDataUp 0 [0xDA, 0x1B]) ∧
    decodeFrame [0xA0, 0xDA, 0x1B] = .ok (.confirmedDataDown 0 [0xDA, 0x1B]) ∧
    decodeFrame [0xC3] = .ok (.rfuMtype 3 []) ∧ decodeFrame [0xFF] = .ok (.proprietary 31 []) :=
  ⟨rfl, rfl, rfl, rfl, rfl, rfl, rfl, rfl⟩

/-- Table words: a two-byte record with its operand, a record with its operand bytes zero, a frame. -/
theorem test_decode_table_words :
    decodeTableWord 16 0x0212 = some (.setChannel 2) ∧ decodeTableWord 8 0x07 = some (.setFcntTx 0) ∧
    decodeTableWord 8 0x60 = some (.unconfirmedDataDown 0 (List.replicate 11 0#8)) := ⟨rfl, rfl, rfl⟩

/-! ### Single steps -/

/-- The reset state with fixed settings in the place of the OPEN ones, and an initialised radio (the setup of V50). -/
abbrev ready : State :=
  { State.reset with
    settings :=
      { State.reset.settings with
        txCh := 0, rxCh := Config.rx1ChMap 0, txDr := 0, rxDr := Config.rx1DrMap 0, txPower := 14
        rx1Delay := 1000, rx1Window := 500, rx2Delay := 2000, rx2Window := 500 }
    status := { State.reset.status with radioReady := true, radioMode := .standby } }

/-- `ready` in a phase, with one listed move. -/
abbrev at_ (p : Phase) (m : Config.Move) : State := { ready with sequencer.seq := p, schedule.agenda := [m] }

/-- `ready` in IDLE with a record outstanding and CTRL to move. -/
abbrev offered (rec : List Byte) : State :=
  { ready with port := some rec, schedule.agenda := [Config.Move.ctrl] }

/-- The next state, or the state itself where there is none. -/
def after (o : Host.Outcome State Fault Refusal) : State :=
  match o with
  | .next t => t
  | .fault _ | .refused _ => State.reset

theorem test_setDevaddr_v1 : (after (exec (.setDevaddr devaddrText) ready)).session.devAddr = #v[0x26, 0x01, 0x1B, 0xDA] :=
  by decide

theorem test_setDevaddr_v5 :
    (after (exec (.setDevaddr [0x32, 0x47, 0x30, 0x31, 0x31, 0x42, 0x44, 0x41]) ready)).session.devAddr.toList.drop 1 =
      [0x01, 0x1B, 0xDA] := by decide

/-- V3. -/
theorem test_setAppskey_v3 :
    let t := after (exec (.setAppskey appskeyText)
      { ready with session.fcntTx := 7, session.fcntRx := 3, status.cmd := .uplink })
    t.session.appSKey = #v[0x10, 0x11, 0x12, 0x13, 0x14, 0x15, 0x16, 0x17, 0x18, 0x19, 0x1A, 0x1B, 0x1C, 0x1D, 0x1E, 0x1F] ∧
      t.session.fcntTx = 0 ∧ t.session.fcntRx = 0 ∧ t.status.cmd = .noCommand := by decide

/-- E1, lower case. -/
theorem test_setDeveui_e1 :
    (after (exec (.setDeveui [0x30, 0x30, 0x30, 0x34, 0x61, 0x33, 0x30, 0x62, 0x30, 0x30, 0x31, 0x63, 0x30, 0x35, 0x33, 0x30])
      ready)).identity.devEui = #v[0x00, 0x04, 0xA3, 0x0B, 0x00, 0x1C, 0x05, 0x30] := by decide

/-- V7. -/
theorem test_getFcntTx_v7 :
    (after (exec .getFcntTx (after (exec (.setFcntTx 0x1234) ready)))).observed.hostLog =
      [.response [0x00], .response [0x00, 0x34, 0x12]] := by decide

/-- V60, V61, V62, V64, V65. -/
theorem test_windows :
    (after (exec (.setRx1Delay 1000) { ready with settings.rx2Delay := 0 })).settings.rx2Delay = 1500 ∧
    (after (exec (.setRx1Window 1500) ready)).settings.rx2Delay = 2500 ∧
    (after (exec (.setRx2Delay 1200) ready)).settings.rx2Delay = 1500 ∧
    (after (exec (.setRx1Delay 0xFFFFFFFF) ready)).settings.rx2Delay = 0xFFFFFFFF ∧
    (after (exec (.setRx1Delay 1000)
      { ready with settings.rx1Delay := 3000, settings.rx2Delay := 3500 })).settings.rx2Delay = 3500 := by decide

/-- V70. -/
theorem test_setDeviceClass_v70 :
    (after (exec (.setDeviceClass 2) ready)).settings.classReq = .c ∧
    (after (exec (.setDeviceClass 1) ready)).settings.classReq = .a ∧
    (after (exec (.setDeviceClass 3) ready)).settings.classReq = .a := by decide

/-- V80, V82. -/
theorem test_setChannel :
    (after (exec .getChannel (after (exec (.setChannel 2) ready)))).observed.hostLog.drop 1 = [.response [0x00, 0x02]] ∧
    (after (exec (.setChannel 8) { ready with settings.txCh := 2 })).settings.chMode = .multi ∧
    (after (exec (.setChannel 8) { ready with settings.txCh := 2 })).settings.txCh = 2 := by decide

/-- V50, V51: the older payload's second byte stays. -/
theorem test_queueUplink_v51 :
    ((Memory.writeMany (Memory.writeMany [] 0 [0x41, 0x42]) 0 [0x5A]) = [(0, 0x5A#8), (1, 0x42#8)]) ∧
    Memory.readMany [(0, 0x5A#8), (1, 0x42#8)] 0 2 = [0x5A, 0x42] := by decide

/-- V67. -/
theorem test_update_v67 : exec .update (offered [0x3F]) = .next (answered [0x00] (offered [0x3F])) := by rfl

/-- V92. -/
theorem test_sleep_v92 :
    (after (exec .sleep { ready with session.classCur := .c })).status.radioMode = .sleep ∧
    (after (exec .sleep { ready with session.classCur := .c })).session.classCur = .a ∧
    (after (exec .wakeup ready)).status.radioMode = .standby := by decide

/-- V94. -/
theorem test_readAck_v94 :
    (after (exec .readAck (after (exec .readAck { ready with status.ackLatch := true })))).observed.hostLog =
      [.response [0x00, 0x01], .response [0x00, 0x00]] := by decide

/-- V95. -/
theorem test_registerOnMessage_v95 :
    (after (exec (.registerOnMessage 7) ready)).status.cbEn = true ∧
    (after (exec (.registerOnMessage 0) { ready with status.cbEn := true })).status.cbEn = false := by decide

/-- V102, and no response. -/
theorem test_getRssi_v102 :
    let t := after (exec .getRssi State.reset)
    t.faults = [{ fault := .radioNotReady .rssi, opcode := 0x30 }] ∧ t.observed.hostLog = [] := by decide

/-- V47. -/
theorem test_join_v47 :
    (after (exec .join State.reset)).faults = [{ fault := .radioNotReady .setMode, opcode := 0x21 }] := by rfl

/-- V44: at ELAPSED = 5999 CTRL has no step, at 6000 the join times out. -/
theorem test_joinTimeout_v44 :
    let s := at_ .joinWait .ctrl
    let early : State := { s with sequencer.tEnd := 6000, sequencer.elapsed := 5999 }
    let late : State := { s with sequencer.tEnd := 6000, sequencer.elapsed := 6000 }
    (after (step early)).sequencer.seq = .joinWait ∧ (after (step late)).sequencer.seq = .idle ∧
      (after (step late)).status.joinState = .joinTimeout ∧
      (after (step late)).observed.hostLog = [.response [0x00, 0x00]] := by decide

/-- V55, V54: RX1 opens at 1000 with T_END = 1500. -/
theorem test_openRx1_v54 :
    let s : State := { at_ .cycWaitRx1 .ctrl with sequencer.elapsed := 1000 }
    (after (step s)).sequencer.seq = .cycRx1 ∧ (after (step s)).sequencer.tEnd = 1500 ∧
    (after (step { s with sequencer.elapsed := 999 })).sequencer.seq = .cycWaitRx1 := by decide

/-- V59, V54: the counter is raised and never lowered, and the ack bit is latched and cleared. -/
theorem test_acceptHeader_v59 :
    let d (c : U16) : DataDownInfo :=
      { mhdr := 0x60, confirmed := false, fctrl := 0x20, fcnt := c, fport := 0, fportPresent := false, payload := [] }
    let s : State := { ready with session.fcntRx := 5 }
    (s.acceptHeader (d 2)).session.fcntRx = 5 ∧ (s.acceptHeader (d 9)).session.fcntRx = 9 ∧
      (s.acceptHeader (d 9)).status.ackLatch = true ∧ (s.acceptHeader (d 9)).buffers.msgMeta.fctrl = 0x00 := by decide

/-- V36: a frame of 11 bytes is rejected whatever it holds. -/
theorem test_decodeDataDown_v36 : decodeDataDown ready (List.replicate 11 0x60#8) = none := by rfl

/-! ### Witnesses: for each obligation with hypotheses, what meets them, each clause at a boundary value -/

theorem chValid_zero : Config.chValid 0 = true := by simp [Config.chValid, Config.chCount]

theorem witness_CommandDecodesFromItsRecord :
    let i := Instr.sendUplink 0 5 (List.replicate 255 0#8)
    i.isCommand = true ∧ i.wellFormed = true := by
  simp only [Instr.isCommand, Instr.wellFormed, List.length_replicate]
  decide

theorem witness_FrameDecodesFromItsBytes :
    let i := Instr.proprietary 31 (List.replicate 254 0#8)
    i.isCommand = false ∧ i.wellFormed = true := by
  simp only [Instr.isCommand, Instr.wellFormed, List.length_replicate]
  decide

theorem witness_DecodedRecordIsOneEncoding : decodeRecord [0x28, 0x00, 0x00, 0x05] = .ok (.sendUplink 0 5 []) := rfl

theorem witness_EveryFrameHasOneKind :
    (1 ≤ [0x00#8].length ∧ [0x00#8].length ≤ 255) ∧
      (1 ≤ (List.replicate 255 0xFF#8).length ∧ (List.replicate 255 0xFF#8).length ≤ 255) := by
  simp only [List.length_replicate]
  decide

/-- Both directions of the equivalence, at opcodes next to each other. -/
theorem witness_ReservedOpcodesAreBadOpcode :
    decodeRecord [0x0B] = .error .badOpcode ∧ decodeRecord [0x0A] = .ok .getFcntRx ∧
      decodeRecord [0x3E] = .error .badOpcode ∧ decodeRecord [0x3F] = .ok .update := ⟨rfl, rfl, rfl, rfl⟩

theorem witness_StepRunsDecodedCommand :
    commandNext (offered [0x21]) [0x21] ∧ decodeRecord [0x21] = .ok .join := ⟨⟨⟨rfl, rfl⟩, rfl, rfl⟩, rfl⟩

/-- `at_` with a frame in RX_SLOT. -/
abbrev holding (p : Phase) (f : List Byte) : State := { at_ p .ctrl with radio.rxSlot := some f }

theorem witness_StepRunsReceivedFrame :
    ∀ p ∈ [Phase.joinWait, .cycRx1, .cycRx2], ctrlNext (holding p [0x60]) ∧ receiving (holding p [0x60]) ∧
      (holding p [0x60]).radio.rxSlot = some [0x60] ∧ decodeFrame [0x60] = .ok (.unconfirmedDataDown 0 []) := by
  intro p hp
  refine ⟨⟨rfl, rfl⟩, ?_, rfl, rfl⟩
  simpa [receiving] using hp

theorem witness_RejectedRecordOnlyAnswersStatus :
    commandNext (offered []) [] ∧ decodeRecord [] = .error .badLength ∧
      commandNext (offered [0x0B]) [0x0B] ∧ decodeRecord [0x0B] = .error .badOpcode :=
  ⟨⟨⟨rfl, rfl⟩, rfl, rfl⟩, rfl, ⟨⟨rfl, rfl⟩, rfl, rfl⟩, rfl⟩

/-- A run is not over while a record is outstanding, a fault is recorded, or HOST has a listed record to send (R545). -/
theorem test_runOver :
    ¬ (offered [0x09]).runOver ∧ ¬ ({ ready with faults := [{ fault := .bufferBound, opcode := 0x2A }] } : State).runOver ∧
      ¬ (at_ .idle (.host [0x09])).runOver := by
  refine ⟨fun h => ?_, fun h => ?_, fun h => h.2.2.2.2.1 [0x09] (.head _)⟩
  · cases h.2.1
  · cases h.2.2.1

/-- `ready` with a fault record. -/
abbrev faultedState : State := { ready with faults := [{ fault := .bufferBound, opcode := 0x2A }] }

theorem witness_FaultedStateHasNoStep : faultedState.faults ≠ [] := by decide

theorem witness_EveryFaultFreeStepCompletes : ready.faultFree := rfl

theorem witness_HostIsHeldUntilIdle :
    (let s := at_ .idle (.host [0x21])
     s.faultFree ∧ s.nextMove = .host [0x21] ∧ s.sequencer.seq = .idle ∧ s.port = none) ∧
    (let s := at_ .joinTx (.host [0x21])
     s.faultFree ∧ s.nextMove = .host [0x21] ∧ s.sequencer.seq ≠ .idle) ∧
    (let s : State := { at_ .idle (.host [0x21]) with port := some [0x09] }
     s.faultFree ∧ s.nextMove = .host [0x21] ∧ s.port ≠ none) := by
  refine ⟨⟨rfl, rfl, rfl, rfl⟩, ⟨rfl, rfl, ?_⟩, rfl, rfl, ?_⟩ <;> decide

theorem witness_ClockMoves :
    (∀ p ∈ [Phase.joinWait, .cycWaitRx1, .cycRx1, .cycWaitRx2, .cycRx2, .idle, .joinTx, .cycTx],
      (at_ p .tick).faultFree ∧ (at_ p .tick).nextMove = .tick) ∧
    (let s : State := { at_ .joinWait .tick with sequencer.elapsed := 0xFFFFFFFF }
     s.faultFree ∧ s.nextMove = .tick ∧ s.sequencer.seq ∈ [Phase.joinWait, .cycWaitRx1, .cycRx1, .cycWaitRx2, .cycRx2]) :=
  ⟨fun _ _ => ⟨rfl, rfl⟩, rfl, rfl, .head _⟩

/-- `ready` in continuous receive. -/
abbrev listening (m : Config.Move) : State := { at_ .cycRx2 m with status.radioMode := rx2Listen }

theorem witness_RadioMoves :
    (∀ n ∈ [0, 1, 255, 256], let s := listening (.deliver (List.replicate n 0#8))
      s.faultFree ∧ s.nextMove = .deliver (List.replicate n 0#8) ∧ ∃ ch dr, s.status.radioMode = .rxcont ch dr) ∧
    (let s := at_ .cycWaitRx1 (.deliver [0x60])
     s.faultFree ∧ s.nextMove = .deliver [0x60] ∧ ∀ ch dr, s.status.radioMode ≠ .rxcont ch dr) ∧
    (∀ b, let s : State := { at_ .cycTx .txDone with radio.txPending := b }
      s.faultFree ∧ s.nextMove = .txDone ∧ s.radio.txPending = b) := by
  refine ⟨fun n _ => ⟨rfl, rfl, .rx2, _, rfl⟩, ⟨rfl, rfl, ?_⟩, fun b => ⟨rfl, rfl, rfl⟩⟩
  intro ch dr h
  cases h

theorem witness_HexTextRoundTrips : devaddrText.length = 2 * 4 ∧ ∀ c ∈ devaddrText, isHexDigit c := by decide

/-- The last pair of a text, valid in lower case, and malformed in its second character ('G', one past 'F'). -/
theorem witness_HexPairsDecodeOneByOne :
    (2 * 1 + 1 < [0x30#8, 0x30, 0x61, 0x46].length ∧ upperCase 0x61 = hexChar 10 ∧ upperCase 0x46 = hexChar 15 ∧
      (10 : Byte) < 16#8 ∧ (15 : Byte) < 16#8) ∧
    (2 * 0 + 1 < [0x30#8, 0x47].length ∧ ¬ isHexDigit 0x47) := by decide

theorem witness_SetChannelByRange :
    (0 : Byte).toNat ≤ 7 ∧ (7 : Byte).toNat ≤ 7 ∧ (8 : Byte).toNat = 8 ∧ 9 ≤ (9 : Byte).toNat ∧ 9 ≤ (255 : Byte).toNat := by
  decide

/-- The region's largest rate and the next above it. -/
theorem witness_SetDatarateWithinRegion :
    let m := if Config.is915 then 4 else 6
    (BitVec.ofNat 8 m).toNat ≤ m ∧ m < (BitVec.ofNat 8 (m + 1)).toNat ∧ m < (255 : Byte).toNat := by
  cases Config.is915 <;> decide

/-- MULTI mode with nothing pending, with an ack, and with the longest uplink. -/
theorem witness_HoppedChannelIsDefined :
    ∀ c : CmdStatus, let s : State :=
        { ready with
          settings.chMode := .multi, status.cmd := c, buffers.txLen := BitVec.ofNat 8 Config.bufCap }
      s.settings.chMode = .multi ∧ s.status.radioReady = true ∧ s.status.cmd = c ∧
        s.buffers.txLen.toNat ≤ Config.bufCap := by
  refine fun c => ⟨rfl, rfl, rfl, ?_⟩
  simp only [BitVec.toNat_ofNat]
  exact Nat.mod_le _ _

/-- A window setter's step from a state that meets the invariant with equality. -/
theorem witness_WindowInvariantKeptByEveryStep :
    let s : State := { offered [0x1A, 0xFF, 0xFF, 0xFF, 0xFF] with settings.rx2Delay := 1500 }
    s.windowInv ∧ ∃ t, step s = .next t := ⟨by decide, _, rfl⟩

theorem witness_SetDeviceClassByCode :
    (0 : Byte).toNat = 0 ∧ (2 : Byte).toNat = 2 ∧ ((1 : Byte).toNat ≠ 0 ∧ (1 : Byte).toNat ≠ 2) ∧
      ((3 : Byte).toNat ≠ 0 ∧ (3 : Byte).toNat ≠ 2) := by decide

theorem witness_SleepAndWakeupCommandTheRadio : ready.status.radioReady = true := rfl

theorem witness_RssiIsCalibratedAndReported : ready.status.radioReady = true := rfl

theorem witness_RadioCommandsBeforeInitFault :
    let s := State.reset
    s.status.radioReady = false ∧ ({ s with status.cmd := .ack } : State).status.cmd = .ack ∧
    (let u : State := { s with status.cmd := .uplink, buffers.txLen := BitVec.ofNat 8 Config.bufCap }
     u.status.radioReady = false ∧ u.status.cmd = .uplink ∧ u.buffers.txLen.toNat ≤ Config.bufCap) ∧
    (let u : State := { s with settings.classReq := .c, session.classCur := .c }
     u.status.radioReady = false ∧ u.status.cmd = .noCommand ∧ u.settings.classReq = .c) := by
  refine ⟨rfl, rfl, ⟨rfl, rfl, ?_⟩, rfl, rfl, rfl⟩
  simp only [BitVec.toNat_ofNat]
  exact Nat.mod_le _ _

theorem witness_UndefinedChannelFaultsBeforeTransmit :
    let s : State := { ready with status.cmd := .uplink, settings.txCh := 7 }
    s.status.radioReady = true ∧ s.settings.chMode = .fixed ∧ s.status.cmd = .uplink ∧
      s.buffers.txLen.toNat ≤ Config.bufCap := ⟨rfl, rfl, rfl, Nat.zero_le _⟩

theorem witness_ReadDataReturnsAndConsumes :
    (let s : State := { ready with status.rxLatch := true, buffers.rxLen := 1 }
     s.status.rxLatch = true ∧ s.buffers.rxLen.toNat ≤ Config.bufCap) ∧ ready.status.rxLatch = false :=
  ⟨⟨rfl, Nat.succ_le_succ (Nat.zero_le _)⟩, rfl⟩

theorem witness_ReadAckIsTrueOnce : ∃ t, exec .readAck { ready with status.ackLatch := true } = .next t := ⟨_, rfl⟩

theorem witness_SendCommandsQueueOneSlot :
    (List.replicate Config.bufCap 0x41#8).length ≤ Config.bufCap ∧
      Config.bufCap < (List.replicate (Config.bufCap + 1) 0x41#8).length := by simp

theorem witness_JoinTransmitsTheJoinRequest :
    (ready.status.radioReady = true ∧ Config.chValid (txChannel ready) = true) ∧
    (let s : State := { ready with settings.chMode := .multi }
     s.status.radioReady = true ∧ Config.chValid (txChannel s) = true) :=
  ⟨⟨rfl, chValid_zero⟩, rfl, chValid_of_draw _⟩

theorem witness_JoinPhasesFollowTheTimer :
    (∀ b, let s : State := { at_ .joinTx .ctrl with radio.txPending := b }
      ctrlNext s ∧ s.status.radioReady = true ∧ s.sequencer.seq = .joinTx ∧ s.radio.txPending = b) ∧
    (let s : State := { at_ .joinWait .ctrl with sequencer.tEnd := 6000, sequencer.elapsed := 5999 }
     ctrlNext s ∧ s.status.radioReady = true ∧ s.sequencer.seq = .joinWait ∧ s.radio.rxSlot = none ∧
       s.sequencer.elapsed.toNat < s.sequencer.tEnd.toNat) ∧
    (let s : State := { at_ .joinWait .ctrl with sequencer.tEnd := 6000, sequencer.elapsed := 6000 }
     ctrlNext s ∧ s.status.radioReady = true ∧ s.sequencer.seq = .joinWait ∧ s.radio.rxSlot = none ∧
       s.sequencer.tEnd.toNat ≤ s.sequencer.elapsed.toNat) := by
  refine ⟨fun b => ⟨⟨rfl, rfl⟩, rfl, rfl, rfl⟩, ⟨⟨rfl, rfl⟩, rfl, rfl, rfl, ?_⟩, ⟨rfl, rfl⟩, rfl, rfl, rfl, ?_⟩ <;> decide

theorem witness_JoinAcceptCommitsTheSessionIfItsMicMatches :
    let s := at_ .joinWait .ctrl
    s.sequencer.seq = .joinWait ∧ s.status.radioReady = true ∧ (List.replicate 16 0#8).length = 16 ∧
      (List.replicate 32 0#8).length = 32 := ⟨rfl, rfl, rfl, rfl⟩

theorem witness_OtherFramesLeaveTheJoinWaitOpen :
    let s := at_ .joinWait .ctrl
    s.sequencer.seq = .joinWait ∧ s.status.radioReady = true ∧
      ∀ n ∈ [15, 17, 31, 33], (List.replicate n 0#8).length ≠ 16 ∧ (List.replicate n 0#8).length ≠ 32 := by
  refine ⟨rfl, rfl, ?_⟩
  decide

/-- Two milliseconds left, and none. -/
theorem witness_JoinWaitEndsByTheClock :
    ∀ left ∈ [0, 2], let s : State :=
      { at_ .joinWait .ctrl with
        sequencer.tEnd := 6000, sequencer.elapsed := 6000 - BitVec.ofNat 32 left
        schedule.agenda := ticks left ++ Config.Move.ctrl :: [] }
    s.faultFree ∧ s.sequencer.seq = .joinWait ∧ s.radio.rxSlot = none ∧ s.status.radioReady = true ∧
      s.sequencer.elapsed.toNat ≤ s.sequencer.tEnd.toNat ∧
      s.schedule.agenda = ticks (s.sequencer.tEnd.toNat - s.sequencer.elapsed.toNat) ++ Config.Move.ctrl :: [] := by
  intro left h
  simp only [List.mem_cons, List.not_mem_nil, or_false] at h
  rcases h with rfl | rfl <;> exact ⟨rfl, rfl, rfl, rfl, by decide, rfl⟩

theorem witness_SessionCommitIsAllOrNothing :
    let s := holding .joinWait (0x20 :: List.replicate 16 0#8)
    (∃ t, step s = .next t) ∧ s.sequencer.seq ≠ .idle := ⟨⟨_, rfl⟩, by decide⟩

theorem witness_UpdateTransmitsThePendingUplink :
    let s : State := { ready with status.cmd := .uplink, buffers.txLen := 1, session.fcntTx := 0xFFFF }
    s.status.cmd = .uplink ∧ s.status.radioReady = true ∧ Config.chValid (txChannel s) = true ∧
      s.buffers.txLen.toNat ≤ Config.bufCap := ⟨rfl, rfl, chValid_zero, Nat.succ_le_succ (Nat.zero_le _)⟩

theorem witness_UpdateTransmitsThePendingAck :
    let s : State := { ready with status.cmd := .ack, settings.chMode := .multi }
    s.status.cmd = .ack ∧ s.status.radioReady = true ∧ Config.chValid (txChannel s) = true :=
  ⟨rfl, rfl, chValid_of_draw _⟩

/-- The phase with ELAPSED at the boundary and one below it; with RX_SLOT empty, and with a frame in it. -/
theorem witness_CyclePhasesFollowTheTimer :
    (∀ p : Phase, ctrlNext (at_ p .ctrl) ∧ (at_ p .ctrl).radio.rxSlot = none ∧ (at_ p .ctrl).status.radioReady = true) ∧
    (∀ p ∈ [Phase.cycTx, .cycWaitRx1, .cycWaitRx2], ctrlNext (holding p [0x60]) ∧
      (holding p [0x60]).status.radioReady = true ∧ (holding p [0x60]).sequencer.seq = p ∧
      (holding p [0x60]).radio.rxSlot ≠ none) ∧
    (999 < ready.settings.rx1Delay.toNat ∧ ready.settings.rx1Delay.toNat ≤ 1000) ∧
    (1999 < ready.settings.rx2Delay.toNat ∧ ready.settings.rx2Delay.toNat ≤ 2000) ∧
    (∀ p ∈ [Phase.cycRx1, .cycRx2], ∀ q : DevClass, let s : State :=
        { at_ p .ctrl with sequencer.tEnd := 1, sequencer.elapsed := 1, settings.classReq := q }
      ctrlNext s ∧ s.radio.rxSlot = none ∧ s.status.radioReady = true ∧
        s.sequencer.tEnd.toNat ≤ s.sequencer.elapsed.toNat ∧ s.settings.classReq = q) := by
  refine ⟨fun p => ⟨⟨rfl, rfl⟩, rfl, rfl⟩, fun p _ => ⟨⟨rfl, rfl⟩, rfl, rfl, fun h => ?_⟩, by decide, by decide,
    fun p _ q => ⟨⟨rfl, rfl⟩, rfl, rfl, Nat.le_refl _, rfl⟩⟩
  cases h

/-- RX1 from 2 to 3, RX2 from 4 to 5, counted from transmit end. -/
theorem witness_UnansweredCycleTimeline :
    let tick := Config.Move.tick
    let ctrl := Config.Move.ctrl
    let s : State :=
      { at_ .cycWaitRx1 .ctrl with
        settings.rx1Delay := 2, settings.rx1Window := 1, settings.rx2Delay := 4, settings.rx2Window := 1
        schedule.agenda := [tick, tick, ctrl, tick, ctrl, tick, ctrl, tick, ctrl] }
    let d1 := s.settings.rx1Delay.toNat
    let c1 := satSum s.settings.rx1Delay s.settings.rx1Window
    let d2 := s.settings.rx2Delay.toNat
    let c2 := satSum s.settings.rx2Delay s.settings.rx2Window
    s.faultFree ∧ s.windowInv ∧ s.sequencer.seq = .cycWaitRx1 ∧ s.sequencer.elapsed = 0#32 ∧ s.radio.rxSlot = none ∧
      s.status.radioReady = true ∧ s.settings.classReq = .a ∧
      s.schedule.agenda = ticks d1 ++ ctrl :: (ticks (c1 - d1) ++ ctrl :: (ticks (d2 - c1) ++ ctrl ::
        (ticks (c2 - d2) ++ ctrl :: []))) :=
  ⟨rfl, by decide, rfl, rfl, rfl, rfl, rfl, rfl⟩

theorem witness_DataDownFrameDecodes :
    (mtypeOf 0x60 = 3#3 ∧ ([] : List Byte).length = (0x20#8 &&& 0x0F#8).toNat) ∧
    (mtypeOf 0xA0 = 5#3 ∧ (List.replicate 15 0#8).length = (0x0F#8 &&& 0x0F#8).toNat) ∧
    (List.replicate Config.bufCap 0#8).length ≤ Config.bufCap := by
  refine ⟨by decide, by decide, ?_⟩
  simp

/-- A data-down of `ready`'s device address (zeros) with FCnt 0: FCtrl ACK, and FPort 1 with one payload byte. -/
abbrev downBytes : List Byte := [0, 0, 0, 0, 0x20, 0, 0, 1, 0x55]

/-- Its frame, with the MIC of the crypto port, whatever that is. -/
abbrev downBody (mhdr : Byte) : List Byte := downBytes ++ micDataList ready 1#1 0 (mhdr :: downBytes)

theorem downBody_accepted (mhdr : Byte) (h : mtypeOf mhdr = 3#3 ∨ mtypeOf mhdr = 5#3) :
    ∃ r, decodeDataDown ready (mhdr :: downBody mhdr) = some r ∧ r.payload.length = 1 := by
  have h2 : ¬ (mtypeOf mhdr ≠ 3#3 ∧ mtypeOf mhdr ≠ 5#3) := by rcases h with h | h <;> simp [h]
  obtain ⟨a, b, c, d, hm⟩ : ∃ a b c d, micDataList ready 1#1 0 (mhdr :: downBytes) = [a, b, c, d] := by
    have hl := length_micDataList ready 1#1 0 (mhdr :: downBytes)
    match micDataList ready 1#1 0 (mhdr :: downBytes), hl with
    | [a, b, c, d], _ => exact ⟨a, b, c, d, rfl⟩
  have hf : mhdr :: downBody mhdr = [mhdr, 0, 0, 0, 0, 0x20, 0, 0, 1, 0x55, a, b, c, d] := by rw [downBody, hm]; rfl
  have h3 : addrAt (mhdr :: downBody mhdr) 1 = ready.session.devAddr := by rw [hf]; rfl
  have hcap : ¬ Config.bufCap < 1 := Nat.not_lt.2 (Nat.succ_le_succ (Nat.zero_le _))
  have h4 : foptsLen 32#8 = 0 := rfl
  have h5 : ofLe16 0#8 0#8 = 0#16 := rfl
  rw [hf] at h3 ⊢
  simp only [decodeDataDown, List.getD_cons_zero]
  rw [if_neg (by simp), if_neg h2, if_neg (not_not.2 h3), if_neg (by simp [h4]), if_neg, if_neg]
  · exact ⟨_, rfl, by simp [slice, h4]⟩
  · simpa [slice, h4] using hcap
  · simp only [not_not]
    exact hm.symm.trans (by simp [h5, downBytes])

theorem witness_DataDownNeedsAddressAndMic : ∃ r, decodeDataDown ready (0x60 :: downBody 0x60) = some r :=
  (downBody_accepted 0x60 (.inl rfl)).imp fun _ h => h.1

/-- Both kinds, in both windows, with a payload. -/
theorem witness_AcceptedDownlinkEndsTheCycle :
    ∀ p ∈ [Phase.cycRx1, .cycRx2], ∀ i ∈ [Instr.unconfirmedDataDown 0 (downBody 0x60), .confirmedDataDown 0 (downBody 0xA0)],
      windowOpen (at_ p .ctrl) ∧ (at_ p .ctrl).status.radioReady = true ∧
        ∃ r, decodeDataDown (at_ p .ctrl) (encode i) = some r ∧ r.payload ≠ [] := by
  intro p hp i hi
  have hw : windowOpen (at_ p .ctrl) := by simpa [windowOpen] using hp
  have hs : ∀ f, decodeDataDown (at_ p .ctrl) f = decodeDataDown ready f := decodeDataDown_of_session_eq rfl
  have hne : ∀ r : DataDownInfo, r.payload.length = 1 → r.payload ≠ [] := by
    intro r h e
    simp [e] at h
  simp only [List.mem_cons, List.not_mem_nil, or_false] at hi
  rcases hi with rfl | rfl
  · obtain ⟨r, hr, hl⟩ := downBody_accepted 0x60 (.inl rfl)
    exact ⟨hw, rfl, r, (hs _).trans hr, hne r hl⟩
  · obtain ⟨r, hr, hl⟩ := downBody_accepted 0xA0 (.inr rfl)
    exact ⟨hw, rfl, r, (hs _).trans hr, hne r hl⟩

theorem witness_UnacceptedFramesChangeNothing :
    (windowOpen (at_ .cycRx1 .ctrl) ∧ (at_ .cycRx1 .ctrl).status.radioReady = true ∧
      decodeDataDown (at_ .cycRx1 .ctrl) (encode (.unconfirmedDataDown 0 [])) = none) ∧
    ∀ p ∈ [Phase.idle, .joinTx, .cycTx, .cycWaitRx1, .cycWaitRx2], ¬ receiving (at_ p .ctrl) :=
  ⟨⟨.inl rfl, rfl, rfl⟩, by simp [receiving]⟩

/-- RX_SLOT empty; for the arming tick also a frame that the radio drops, where it does. -/
theorem witness_TickArmsAndDisarmsClassC :
    (∀ q c : DevClass, let s : State := { ready with settings.classReq := q, session.classCur := c }
      s.status.cmd = .noCommand ∧ s.settings.classReq = q ∧ s.session.classCur = c ∧ s.status.radioReady = true ∧
        s.radio.rxSlot = none ∧ slotAfterMode s = none) ∧
    ∀ n, Config.slotKept n = false →
      slotAfterMode { ready with radio.rxSlot := some [0x60], schedule.draws := n } = none := by
  refine ⟨fun q c => ⟨rfl, rfl, rfl, rfl, rfl, ite_self _⟩, fun n h => ?_⟩
  simp [h]

/-- `ready` listening in Class C with a frame in RX_SLOT. -/
abbrev armed (f : List Byte) : State :=
  { ready with
    settings.classReq := .c, session.classCur := .c, status.radioMode := rx2Listen, radio.rxSlot := some f }

/-- Armed before, and arming now. -/
theorem witness_ClassCDispatchesOneFramePerTick :
    ∀ c : DevClass, let s (f : List Byte) : State := { armed f with session.classCur := c }
      (∀ f, (s f).status.cmd = .noCommand ∧ (s f).settings.classReq = .c ∧ (s f).session.classCur = c ∧
        (s f).status.radioReady = true ∧ (s f).radio.rxSlot = some f) ∧
      decodeDataDown (s [0x60]) [0x60] = none ∧
      ∃ r, decodeDataDown (s (0x60 :: downBody 0x60)) (0x60 :: downBody 0x60) = some r := by
  refine fun c => ⟨fun f => ⟨rfl, rfl, rfl, rfl, rfl⟩, rfl, ?_⟩
  refine (downBody_accepted 0x60 (.inl rfl)).imp fun r h => ?_
  exact (show _ = decodeDataDown ready (0x60 :: downBody 0x60) from rfl).trans h.1

theorem witness_ClassCInvariantKeptByEveryStep :
    let s : State := { armed [0x60] with port := some [0x22], schedule.agenda := [Config.Move.ctrl] }
    s.classInv ∧ s.session.classCur = .c ∧ ∃ t, step s = .next t := ⟨fun _ => ⟨rfl, rfl⟩, rfl, _, rfl⟩

/-- UPDATE with nothing pending, and RX2 closing, with CLASS_REQ = C. -/
theorem witness_ClassCEnteredOnlyOnRequest :
    (let s : State := { offered [0x3F] with settings.classReq := .c }
     s.session.classCur = .a ∧ ∃ t, step s = .next t ∧ t.session.classCur = .c) ∧
    (let s : State := { at_ .cycRx2 .ctrl with settings.classReq := .c }
     s.session.classCur = .a ∧ ∃ t, step s = .next t ∧ t.session.classCur = .c) := by
  refine ⟨⟨rfl, ?_⟩, rfl, _, rfl, rfl⟩
  have h := (classTick_eq_ok (s := { offered [0x3F] with settings.classReq := .c }.takeMove)).2
    (.inr ⟨rfl, _, _, armClassC_eq_ok.2 (.inr ⟨rfl, rfl, rfl⟩),
      pollClassC_eq_ok.2 ⟨rfl, .inl ⟨by simp [State.commandMode, State.takeMove, State.reset], rfl⟩⟩, rfl⟩)
  exact ⟨_, congrArg (conclude opUpdate _) h, rfl⟩

theorem witness_IdentityWrittenOnlyByItsSetters :
    (∃ t, step (offered (0x01 :: deveuiText)) = .next t ∧ t.identity.devEui ≠ ready.identity.devEui) ∧
    (∃ t, step (offered (0x02 :: deveuiText)) = .next t ∧ t.identity.appEui ≠ ready.identity.appEui) ∧
    (∃ t, step (offered (0x03 :: appskeyText)) = .next t ∧ t.identity.appKey ≠ ready.identity.appKey) := by
  refine ⟨⟨_, rfl, ?_⟩, ⟨_, rfl, ?_⟩, _, rfl, ?_⟩ <;> decide

/-- A step that transmits: UPDATE with an ack pending. -/
theorem witness_EachDataUplinkAdvancesTheCounter :
    ∃ t, step { offered [0x3F] with status.cmd := .ack } = .next t := ⟨_, rfl⟩

theorem witness_WrapFlagAndFaultsAreSticky :
    (let s : State := { offered [0x06] with status.fcntWrapped := true }
     s.status.fcntWrapped = true ∧ ∃ t, step s = .next t) ∧
    (let s : State := { faultedState with status.fcntWrapped := true }
     s.status.fcntWrapped = true ∧ s.faults ≠ [] ∧ ∃ t, exec .sendAck s = .next t) :=
  ⟨⟨rfl, _, rfl⟩, rfl, by decide, _, rfl⟩

theorem witness_RateInvariantKeptByEveryStep :
    (offered [0x11, 0x04]).rateInv ∧ ∃ t, step (offered [0x11, 0x04]) = .next t :=
  ⟨⟨rfl, rfl, Nat.zero_le _⟩, _, rfl⟩

/-- SEND_UPLINK of one nonzero byte, with data announced. -/
theorem witness_StorageInvariantsKeptByEveryStep :
    let s : State :=
      { offered [0x28, 0x01, 0x00, 0x05, 0x41] with
        buffers.rxBuf := [(0, 0x55#8)], buffers.rxLen := 1, status.rxLatch := true, sequencer.frame := [0x40] }
    s.memInv ∧ s.latchInv ∧ s.frameInv ∧ ∃ t, step s = .next t := by
  refine ⟨⟨rfl, ?_, Nat.zero_le _⟩, ⟨fun _ => by decide, Nat.succ_le_succ (Nat.zero_le _)⟩, ⟨by decide, ?_⟩, _, rfl⟩
  · have h : 0 < Config.bufCap := Nat.succ_pos _
    simp [Memory.wf, Memory.wfFrom, h]
  · intro f hf
    cases hf

theorem witness_SequencerInvariantKeptByEveryStep :
    let s : State := { at_ .cycTx .txDone with status.cmd := .ack, radio.txPending := true }
    s.commandInv ∧ s.pendingInv ∧ ∃ t, step s = .next t := ⟨.inr rfl, fun _ => .inr rfl, _, rfl⟩

theorem witness_RadioUntouchedBeforeInit :
    let s : State := { State.reset with port := some [0x21], schedule.agenda := [Config.Move.ctrl] }
    s.readyInv ∧ s.status.radioReady = false ∧ ∃ t, step s = .next t := ⟨fun _ => ⟨rfl, rfl, rfl, rfl, rfl⟩, rfl, _, rfl⟩

end Sys2Proof.Tests
end

section
/-! The state after reset and its invariants (00_scope.md R11; 70_reset_and_hazards.md R602). The OPEN parameters are
opaque, so only the constraint in a parameter's type can be used of its value. -/

namespace Sys2Proof.Config

/-! ### What the types of the reset parameters say -/

/-- R80: the default data rate is one of the region's. -/
theorem defaultDr_le_maxDr : defaultDr.val ≤ maxDr := Nat.le_of_lt_succ defaultDr.isLt

/-- R11: the first receive window closes no later than the second one opens. The sum of the two words is bounded before
it can wrap, since a word is at most the number it was made from. -/
theorem rx1DelayRst_add_rx1WindowRst_le : rx1DelayRst.toNat + rx1WindowRst.toNat ≤ rx2DelayRst.toNat := by
  have hdelay : rx1DelayRst.toNat ≤ rx1DelayRstVal.val := Nat.mod_le _ _
  have hwindow : rx1WindowRst.toNat ≤ rx1WindowRstVal.val := Nat.mod_le _ _
  have hdelayBound : rx1DelayRstVal.val < rx2DelayRst.toNat + 1 := rx1DelayRstVal.isLt
  have hwindowBound : rx1WindowRstVal.val < rx2DelayRst.toNat - rx1DelayRstVal.val + 1 := rx1WindowRstVal.isLt
  omega

end Sys2Proof.Config

namespace Sys2Proof.Machine

/-! ### Each invariant right after reset -/

theorem State.reset_windowInv : State.reset.windowInv :=
  (Nat.min_le_left _ _).trans Config.rx1DelayRst_add_rx1WindowRst_le

theorem State.reset_rateInv : State.reset.rateInv :=
  ⟨rfl, rfl, (Nat.mod_le _ _).trans Config.defaultDr_le_maxDr⟩

/-- Reset leaves the device in Class A. -/
theorem State.reset_classInv : State.reset.classInv := fun hc => nomatch hc

/-- Both stores are empty, which is canonical, and so is the payload to send. -/
theorem State.reset_memInv : State.reset.memInv := ⟨rfl, rfl, Nat.zero_le _⟩

/-- No data is announced. -/
theorem State.reset_latchInv : State.reset.latchInv := ⟨(fun hl => nomatch hl), Nat.zero_le _⟩

/-- FRAME is empty and the slot holds no frame. -/
theorem State.reset_frameInv : State.reset.frameInv := ⟨Nat.zero_le _, fun _ hf => nomatch hf⟩

/-- Reset is in IDLE without a command. -/
theorem State.reset_commandInv : State.reset.commandInv := fun hc => nomatch hc

/-- No transmission is pending. -/
theorem State.reset_pendingInv : State.reset.pendingInv := fun hp => nomatch hp

/-- The radio is not ready, so every part of the conclusion is a reset value. -/
theorem State.reset_readyInv : State.reset.readyInv := fun _ => ⟨rfl, rfl, rfl, rfl, rfl⟩

/-- Settles O60: the window and rate invariants by the constraints on the OPEN parameters, the others by the fixed reset
values. -/
theorem resetMeetsTheInvariants : Obligations.ResetMeetsTheInvariants :=
  ⟨State.reset_windowInv, State.reset_rateInv, State.reset_classInv, State.reset_memInv, State.reset_latchInv,
    State.reset_frameInv, State.reset_commandInv, State.reset_pendingInv, State.reset_readyInv⟩

end Sys2Proof.Machine
end

section
/-! SUPPORT. What one step can do, said once as the list of its effects on the state: the moves of HOST, RADIO and
CLOCK, the commands, the frames and the phases. The proofs of what every step keeps take these cases. -/

namespace Sys2Proof.Machine

open Sys2Proof.Claims

/-! ### The effects -/

/-- A move of HOST, RADIO or CLOCK: taken where the agent has a step, else passed over (R72, R114, R530, R531;
log 5). -/
inductive MoveEffect (s : State) : State → Prop where
  | passed : MoveEffect s s
  | offered (rec : List Byte) : MoveEffect s { s with port := some rec }
  | txDone : MoveEffect s { s with radio.txPending := false }
  | delivered (f : List Byte) : s.status.radioMode.isRxcont = true → 1 ≤ f.length → f.length ≤ Config.maxPhy →
      MoveEffect s { s with radio.rxSlot := some f }
  | ticked (e : U32) : MoveEffect s { s with sequencer.elapsed := e }

/-- What an instruction of the command port does where it raises no fault: it answers, or starts a join or a cycle. -/
inductive CommandRun (s : State) : Instr → State → Prop where
  | answered (i : Instr) (u : State) (b : List Byte) : CommandEffect s i u → CommandRun s i (u.respond b)
  | joinStarted : s.status.radioReady = true → CommandRun s .join
      { ((prepareJoin s).commandMode .standby).transmit
          { frame := (prepareJoin s).sequencer.frame, ch := .up (prepareJoin s).settings.txCh
            dr := (prepareJoin s).settings.txDr.setWidth 8, pwr := (prepareJoin s).settings.txPower } with
        status.joinState := .joinSent, sequencer.seq := .joinTx }
  | cycleStarted (kind : DataKind) (p : List Byte) (u : State) : s.status.radioReady = true →
      s.status.cmd = .uplink ∨ s.status.cmd = .ack → p.length ≤ Config.bufCap →
      u = { prepareCycle s with
            sequencer.frame := dataUpFrame kind (prepareCycle s) p
            buffers.msgMeta := dataUpMeta kind (prepareCycle s) } →
      CommandRun s .update
        { ((u.commandMode .standby).transmit
            { frame := u.sequencer.frame, ch := .up u.settings.txCh
              dr := u.settings.txDr.setWidth 8, pwr := u.settings.txPower }).fcntAdvance with
          sequencer.seq := .cycTx }

/-- CYCLE_END: to standby, or armed on RX2 where Class C is wanted (R311). -/
inductive CycleEnded (s : State) : State → Prop where
  | standby : CycleEnded s
      ({ { s with status.cmd := .noCommand }.commandMode .standby with sequencer.seq := .idle }.respond [0x00#8])
  | armed : CycleEnded s
      ({ { s with status.cmd := .noCommand }.commandMode rx2Listen with
          session.classCur := .c, sequencer.seq := .idle }.respond [0x00#8])

/-- What taking the frame `f` does where it raises no fault: no message, a join-accept that ends the join, or a data
downlink that ends the cycle (R274, R308, R309). -/
inductive FrameEffect (f : List Byte) (s : State) : State → Prop where
  | noMessage : FrameEffect f s (s.readSlot f)
  | joined (r : JoinAcceptInfo) : s.sequencer.seq = .joinWait → FrameEffect f s
      ({ (joinCommit r (s.readSlot f)).commandMode .standby with
          status.cmd := .noCommand, sequencer.seq := .idle }.respond [0x00#8, 0x01#8])
  | received (d : DataDownInfo) (u t : State) : s.sequencer.seq = .cycRx1 ∨ s.sequencer.seq = .cycRx2 →
      ResultEffect d (s.readSlot f) u → CycleEnded u t → FrameEffect f s t

/-- The step of a phase that has no frame to take (R273, R275, R306 to R309). -/
inductive PhaseEffect (s : State) : State → Prop where
  | joinTxDone : s.sequencer.seq = .joinTx → s.radio.txPending = false → PhaseEffect s
      { { s with
            status.radioMode := .standby
            sequencer.elapsed := 0#32
            sequencer.tEnd := Config.joinTimeoutMs }.commandMode (.rxcont (.down s.settings.rxCh) s.settings.rxDr) with
        sequencer.seq := .joinWait }
  | joinTimeout : s.sequencer.seq = .joinWait → PhaseEffect s
      ({ { s with status.joinState := .joinTimeout }.commandMode .standby with
          status.cmd := .noCommand, sequencer.seq := .idle }.respond [0x00#8, 0x00#8])
  | cycleTxDone : s.sequencer.seq = .cycTx → s.radio.txPending = false → PhaseEffect s (cycleTxDone s)
  | openRx1 : s.sequencer.seq = .cycWaitRx1 → PhaseEffect s
      { { s with sequencer.tEnd := rx1Close s }.commandMode (.rxcont (.down s.settings.rxCh) s.settings.rxDr) with
        sequencer.seq := .cycRx1 }
  | closeRx1 : s.sequencer.seq = .cycRx1 → PhaseEffect s
      { s.commandMode .standby with sequencer.seq := .cycWaitRx2 }
  | openRx2 : s.sequencer.seq = .cycWaitRx2 → PhaseEffect s
      { { s with sequencer.tEnd := rx2Close s }.commandMode rx2Listen with sequencer.seq := .cycRx2 }
  | cycleEnd (t : State) : s.sequencer.seq = .cycRx2 → CycleEnded s t → PhaseEffect s t

/-- The effects of CTRL's step. A command runs in IDLE; every frame or phase step that does something is taken outside
IDLE. -/
inductive CtrlEffect (s : State) : State → Prop where
  | waits : CtrlEffect s s
  | faulted (k : ModelFault) (op : Byte) : CtrlEffect s (s.raise k op)
  | rejected (b : List Byte) : CtrlEffect s (s.respond b)
  | command (rec : List Byte) (i : Instr) (t : State) : s.sequencer.seq = .idle → s.port = some rec →
      decodeRecord rec = .ok i → CommandRun s i t → CtrlEffect s t
  | frame (f : List Byte) (t : State) : s.sequencer.seq ≠ .idle → s.radio.rxSlot = some f → FrameEffect f s t →
      CtrlEffect s t
  | phase (t : State) : s.sequencer.seq ≠ .idle → PhaseEffect s t → CtrlEffect s t

/-! ### Each operation has its effect -/

theorem hostOffer_effect (rec : List Byte) (s : State) : MoveEffect s (hostOffer rec s) := by
  unfold hostOffer
  split
  · exact .offered rec
  · exact .passed

theorem radioTxDone_effect (s : State) : MoveEffect s (radioTxDone s) := by
  unfold radioTxDone
  split
  · exact .txDone
  · exact .passed

theorem radioDeliver_effect (f : List Byte) (s : State) : MoveEffect s (radioDeliver f s) := by
  unfold radioDeliver
  split
  · next h => exact .delivered f h.1 h.2.1 h.2.2
  · exact .passed

theorem clockTick_effect (s : State) : MoveEffect s (clockTick s) := by
  unfold clockTick
  split
  · exact .ticked _
  · exact .passed

/-- The payload that ENCODE_DATA_UP took fits the buffer, since MemRead answered (R102). -/
theorem cycleStart_run {kind : DataKind} {s t : State} (hc : s.status.cmd = .uplink ∨ s.status.cmd = .ack)
    (h : cycleStart kind s = .ok t) : CommandRun s .update t := by
  obtain ⟨u, hu, hr, -, rfl⟩ := cycleStart_eq_ok.1 h
  obtain ⟨p, hp, rfl⟩ := encodeDataUp_eq_ok.1 hu
  have hl : p.length ≤ Config.bufCap := by
    rcases hp with ⟨-, hp⟩ | ⟨-, rfl⟩
    · obtain ⟨hl, rfl⟩ := memRead_eq_ok.1 hp
      simpa using hl
    · exact Nat.zero_le _
  exact .cycleStarted kind p _ (by simpa using hr) hc hl rfl

/-- An instruction of the command port raises a fault or runs. -/
theorem exec_run {i : Instr} {s t : State} (hc : i.isCommand = true) (h : exec i s = .next t) :
    (∃ k op, t = s.raise k op) ∨ CommandRun s i t := by
  rcases exec_command hc h with hf | ⟨u, b, he, rfl⟩ | ⟨rfl, hj⟩ | ⟨rfl, ⟨hc, hs⟩ | ⟨hc, hs⟩⟩
  · exact .inl hf
  · exact .inr (.answered i u b he)
  · obtain ⟨hr, -, rfl⟩ := startJoin_eq_ok.1 hj
    exact .inr (.joinStarted hr)
  · exact .inr (cycleStart_run (.inl hc) hs)
  · exact .inr (cycleStart_run (.inr hc) hs)

theorem cycleEnd_effect {s t : State} (h : cycleEnd s = .ok t) : CycleEnded s t := by
  obtain ⟨-, ⟨-, rfl⟩ | ⟨-, rfl⟩⟩ := cycleEnd_eq_ok.1 h
  · exact .standby
  · exact .armed

theorem joinFrame_effect {f : List Byte} {s t : State} (hq : s.sequencer.seq = .joinWait)
    (h : joinFrame f s = .ok t) : FrameEffect f s t := by
  obtain ⟨-, ⟨-, rfl⟩ | ⟨r, -, hr⟩⟩ := joinFrame_eq_ok.1 h
  · exact .noMessage
  · obtain ⟨-, rfl⟩ := joinEnd_eq_ok.1 hr
    exact .joined r hq

theorem cycleFrame_effect {f : List Byte} {s t : State} (hq : s.sequencer.seq = .cycRx1 ∨ s.sequencer.seq = .cycRx2)
    (h : cycleFrame f s = .ok t) : FrameEffect f s t := by
  obtain ⟨-, ⟨-, rfl⟩ | ⟨d, u, -, hu, ht⟩⟩ := cycleFrame_eq_ok.1 h
  · exact .noMessage
  · exact .received d u t hq (resultA_effect hu) (cycleEnd_effect ht)

/-- A concluded step raises a fault or has the effect of what it did. -/
theorem effect_of_conclude {Q : State → Prop} {op : Byte} {s t : State} {r : Except ModelFault State}
    (h : conclude op s r = .next t) (hr : r = .ok t → Q t) : (∃ k, t = s.raise k op) ∨ Q t := by
  rcases conclude_eq_next.1 h with hx | ⟨k, -, rfl⟩
  · exact .inr (hr hx)
  · exact .inl ⟨k, rfl⟩

/-- A frame row waits, raises a fault, or takes the frame in a receive phase. -/
theorem receiveFrame_effect {f : List Byte} {s t : State} (h : receiveFrame f s = .next t) :
    t = s ∨ (∃ k op, t = s.raise k op) ∨ s.sequencer.seq ≠ .idle ∧ FrameEffect f s t := by
  by_cases hj : s.sequencer.seq = .joinWait
  · rw [receiveFrame_of_joinWait f hj] at h
    rcases effect_of_conclude h (joinFrame_effect hj) with ⟨k, rfl⟩ | he
    · exact .inr (.inl ⟨k, _, rfl⟩)
    · exact .inr (.inr ⟨by simp [hj], he⟩)
  by_cases hw : s.sequencer.seq = .cycRx1 ∨ s.sequencer.seq = .cycRx2
  · rw [receiveFrame_of_window f hw] at h
    rcases effect_of_conclude h (cycleFrame_effect hw) with ⟨k, rfl⟩ | he
    · exact .inr (.inl ⟨k, _, rfl⟩)
    · exact .inr (.inr ⟨by rcases hw with hw | hw <;> simp [hw], he⟩)
  · unfold receiveFrame at h
    split at h <;> simp_all

/-- A phase's own step waits, raises a fault, or leaves the phase. -/
theorem phaseStep_effect {s t : State} (h : phaseStep s = .next t) : CtrlEffect s t := by
  have done : ∀ {op r}, conclude op s r = .next t → s.sequencer.seq ≠ .idle → (r = .ok t → PhaseEffect s t) →
      CtrlEffect s t := by
    intro op r hc hq hr
    rcases effect_of_conclude hc hr with ⟨k, rfl⟩ | he
    · exact .faulted k op
    · exact .phase t hq he
  rcases phaseStep_cases h with rfl | ⟨hq, hp, hx⟩ | ⟨hq, -, hx⟩ | ⟨hq, hp, rfl⟩ | ⟨hq, -, hx⟩ | ⟨hq, -, hx⟩ |
    ⟨hq, -, hx⟩ | ⟨hq, -, hx⟩
  · exact .waits
  · exact done hx (by simp [hq]) fun ho => (joinTxDone_eq_ok.1 ho).2 ▸ .joinTxDone hq hp
  · exact done hx (by simp [hq]) fun ho => (joinTimeout_eq_ok.1 ho).2 ▸ .joinTimeout hq
  · exact .phase _ (by simp [hq]) (.cycleTxDone hq hp)
  · exact done hx (by simp [hq]) fun ho => (openRx1_eq_ok.1 ho).2 ▸ .openRx1 hq
  · exact done hx (by simp [hq]) fun ho => (closeRx1_eq_ok.1 ho).2 ▸ .closeRx1 hq
  · exact done hx (by simp [hq]) fun ho => (openRx2_eq_ok.1 ho).2 ▸ .openRx2 hq
  · exact done hx (by simp [hq]) fun ho => .cycleEnd t hq (cycleEnd_effect ho)

/-- CTRL's step has one of its effects. -/
theorem ctrlStep_effect {s t : State} (h : ctrlStep s = .next t) : CtrlEffect s t := by
  rcases ctrlStep_cases h with ⟨rec, i, hq, hp, hd, hx⟩ | ⟨rec, r, -, -, -, rfl⟩ | ⟨f, hf, hx⟩ | hx
  · rcases exec_run (isCommand_of_decodeRecord hd) hx with ⟨k, op, rfl⟩ | hr
    · exact .faulted k op
    · exact .command rec i t hq hp hd hr
  · exact .rejected _
  · have hr : receiveFrame f s = .next t := by
      rcases hx with ⟨hq, hx⟩ | ⟨hq, hx⟩
      · rwa [receiveFrame_of_joinWait f hq]
      · rwa [receiveFrame_of_window f hq]
    rcases receiveFrame_effect hr with rfl | ⟨k, op, rfl⟩ | ⟨hq, he⟩
    · exact .waits
    · exact .faulted k op
    · exact .frame f t hq hf he
  · exact phaseStep_effect hx

/-- Every step is a move of HOST, RADIO or CLOCK, or a step of CTRL when it is CTRL's turn in a fault-free state. -/
theorem step_effect {s t : State} (h : step s = .next t) :
    MoveEffect s.takeMove t ∨ ctrlNext s ∧ CtrlEffect s.takeMove t := by
  obtain ⟨hf, ⟨rec, -, rfl⟩ | ⟨-, rfl⟩ | ⟨f, -, rfl⟩ | ⟨-, rfl⟩ | ⟨hm, hc⟩⟩ := step_cases h
  · exact .inl (hostOffer_effect rec _)
  · exact .inl (radioTxDone_effect _)
  · exact .inl (radioDeliver_effect f _)
  · exact .inl (clockTick_effect _)
  · exact .inr ⟨⟨hf, hm⟩, ctrlStep_effect hc⟩

/-- An instruction that is no command is a frame for CTRL to take. -/
theorem exec_eq_receiveFrame {i : Instr} (hc : i.isCommand = false) (s : State) : ∃ f, exec i s = receiveFrame f s := by
  cases i
  case joinRequest | joinAccept | unconfirmedDataUp | unconfirmedDataDown | confirmedDataUp | confirmedDataDown |
    rfuMtype | proprietary => exact ⟨_, rfl⟩
  all_goals cases hc

/-- An instruction, from whatever phase and with whatever frame, waits, raises a fault, runs or takes its frame. -/
theorem exec_effect {i : Instr} {s t : State} (h : exec i s = .next t) :
    t = s ∨ (∃ k op, t = s.raise k op) ∨ CommandRun s i t ∨ ∃ f, FrameEffect f s t := by
  cases hc : i.isCommand
  · obtain ⟨f, hf⟩ := exec_eq_receiveFrame hc s
    rcases receiveFrame_effect (hf ▸ h) with rfl | hk | ⟨-, he⟩
    · exact .inl rfl
    · exact .inr (.inl hk)
    · exact .inr (.inr (.inr ⟨f, he⟩))
  · rcases exec_run hc h with hk | hr
    · exact .inr (.inl hk)
    · exact .inr (.inr (.inl hr))

end Sys2Proof.Machine
end

section
/-! SUPPORT. What the effects leave unchanged, said once for each kind of effect. -/

namespace Sys2Proof.Machine

open Sys2Proof.Claims

/-- What only a transmission or a fault writes: TXLOG, FCNT_WRAPPED and the records already in FAULTS are kept. -/
structure KeepsRecords (s t : State) : Prop where
  txLog : t.observed.txLog = s.observed.txLog
  fcntWrapped : t.status.fcntWrapped = s.status.fcntWrapped
  faults : s.faults ⊆ t.faults

/-- What only a command of the command port writes: identity, settings, RADIO_READY and the payload to send are kept
too. -/
structure KeepsSetup (s t : State) : Prop extends KeepsRecords s t where
  identity : t.identity = s.identity
  settings : t.settings = s.settings
  radioReady : t.status.radioReady = s.status.radioReady
  txBuf : t.buffers.txBuf = s.buffers.txBuf
  txLen : t.buffers.txLen = s.buffers.txLen

/-- The sequencer stays in its phase and starts no transmission. -/
structure KeepsPhase (s t : State) : Prop where
  seq : t.sequencer.seq = s.sequencer.seq
  txPending : t.radio.txPending = s.radio.txPending

theorem KeepsRecords.trans {s t u : State} (h : KeepsRecords s t) (h' : KeepsRecords t u) : KeepsRecords s u :=
  ⟨h'.txLog.trans h.txLog, h'.fcntWrapped.trans h.fcntWrapped, fun _ hr => h'.faults (h.faults hr)⟩

theorem KeepsRecords.of_eq {s t : State} (htx : t.observed.txLog = s.observed.txLog)
    (hw : t.status.fcntWrapped = s.status.fcntWrapped) (hf : t.faults = s.faults) : KeepsRecords s t :=
  ⟨htx, hw, fun _ hr => hf ▸ hr⟩

theorem KeepsSetup.trans {s t u : State} (h : KeepsSetup s t) (h' : KeepsSetup t u) : KeepsSetup s u where
  toKeepsRecords := h.toKeepsRecords.trans h'.toKeepsRecords
  identity := h'.identity.trans h.identity
  settings := h'.settings.trans h.settings
  radioReady := h'.radioReady.trans h.radioReady
  txBuf := h'.txBuf.trans h.txBuf
  txLen := h'.txLen.trans h.txLen

theorem KeepsPhase.trans {s t u : State} (h : KeepsPhase s t) (h' : KeepsPhase t u) : KeepsPhase s u :=
  ⟨h'.seq.trans h.seq, h'.txPending.trans h.txPending⟩

/-! ### The shared operations -/

theorem State.emitMessage_txLog (p : List Byte) (b : Bool) (q : Byte) (s : State) :
    (s.emitMessage p b q).observed.txLog = s.observed.txLog := by
  rw [State.emitMessage_observed]
  split <;> rfl

theorem State.raise_keepsSetup (k : ModelFault) (op : Byte) (s : State) : KeepsSetup s (s.raise k op) :=
  ⟨⟨rfl, rfl, fun _ => State.mem_raise_faults⟩, rfl, rfl, rfl, rfl, rfl⟩

theorem State.takeMove_keepsSetup (s : State) : KeepsSetup s s.takeMove :=
  ⟨.of_eq rfl rfl rfl, rfl, rfl, rfl, rfl, rfl⟩

theorem State.respond_keepsSetup (b : List Byte) (s : State) : KeepsSetup s (s.respond b) :=
  ⟨.of_eq rfl rfl rfl, rfl, rfl, rfl, rfl, rfl⟩

theorem State.readSlot_keepsSetup (f : List Byte) (s : State) : KeepsSetup s (s.readSlot f) :=
  ⟨.of_eq rfl rfl rfl, rfl, rfl, rfl, rfl, rfl⟩

/-! ### Agents, frames and phases -/

theorem MoveEffect.keepsSetup {s t : State} (h : MoveEffect s t) : KeepsSetup s t := by
  cases h <;> exact ⟨.of_eq rfl rfl rfl, rfl, rfl, rfl, rfl, rfl⟩

theorem ResultEffect.keepsSetup {d : DataDownInfo} {s t : State} (h : ResultEffect d s t) : KeepsSetup s t := by
  cases h <;> refine ⟨.of_eq ?_ ?_ ?_, ?_, ?_, ?_, ?_, ?_⟩ <;>
    simp [-State.emitMessage_observed, State.emitMessage_txLog]

theorem CycleEnded.keepsSetup {s t : State} (h : CycleEnded s t) : KeepsSetup s t := by
  cases h <;> exact ⟨.of_eq rfl rfl rfl, rfl, rfl, rfl, rfl, rfl⟩

theorem FrameEffect.keepsSetup {f : List Byte} {s t : State} (h : FrameEffect f s t) : KeepsSetup s t := by
  cases h with
  | noMessage => exact State.readSlot_keepsSetup f s
  | joined r _ => exact ⟨.of_eq rfl rfl rfl, rfl, rfl, rfl, rfl, rfl⟩
  | received d u t _ hu ht => exact ((State.readSlot_keepsSetup f s).trans hu.keepsSetup).trans ht.keepsSetup

theorem PhaseEffect.keepsSetup {s t : State} (h : PhaseEffect s t) : KeepsSetup s t := by
  cases h with
  | cycleEnd t _ ht => exact ht.keepsSetup
  | joinTxDone | joinTimeout | cycleTxDone | openRx1 | closeRx1 | openRx2 =>
    exact ⟨.of_eq rfl rfl rfl, rfl, rfl, rfl, rfl, rfl⟩

/-! ### Commands -/

theorem Armed.keeps {s t : State} (h : Armed s t) : KeepsSetup s t ∧ KeepsPhase s t := by
  cases h <;> exact ⟨⟨.of_eq rfl rfl rfl, rfl, rfl, rfl, rfl, rfl⟩, rfl, rfl⟩

/-- A Class C tick does not touch the setup, and stays in IDLE. -/
theorem TickEffect.keeps {s t : State} (h : TickEffect s t) : KeepsSetup s t ∧ KeepsPhase s t := by
  have polled : ∀ {u v : State}, Armed s u → KeepsSetup u v → KeepsPhase u v → KeepsSetup s v ∧ KeepsPhase s v :=
    fun ha hs hp => ⟨ha.keeps.1.trans hs, ha.keeps.2.trans hp⟩
  cases h with
  | nothing | disarm => exact ⟨⟨.of_eq rfl rfl rfl, rfl, rfl, rfl, rfl, rfl⟩, rfl, rfl⟩
  | armed u _ ha => exact ha.keeps
  | noMessage u f _ ha => exact polled ha ⟨.of_eq rfl rfl rfl, rfl, rfl, rfl, rfl, rfl⟩ ⟨rfl, rfl⟩
  | header u f d _ ha =>
    refine polled ha ⟨.of_eq ?_ ?_ ?_, ?_, ?_, ?_, ?_, ?_⟩ ⟨?_, ?_⟩ <;> simp
  | message u f d _ ha =>
    refine polled ha ⟨.of_eq ?_ ?_ ?_, ?_, ?_, ?_, ?_, ?_⟩ ⟨?_, ?_⟩ <;>
      simp [-State.emitMessage_observed, State.emitMessage_txLog]

/-- A command that answers at once transmits nothing, takes no fault and stays in its phase. -/
theorem CommandEffect.keeps {s t : State} {i : Instr} (h : CommandEffect s i t) :
    KeepsRecords s t ∧ KeepsPhase s t := by
  cases h with
  | tick t _ ht => exact ⟨ht.keeps.1.toKeepsRecords, ht.keeps.2⟩
  | _ => refine ⟨.of_eq ?_ ?_ ?_, ?_, ?_⟩ <;> simp

/-! ### CTRL and the whole step -/

/-- Only a command's run touches the setup. -/
theorem CtrlEffect.keepsSetup_or_command {s t : State} (h : CtrlEffect s t) :
    KeepsSetup s t ∨ ∃ rec i, s.sequencer.seq = .idle ∧ s.port = some rec ∧ decodeRecord rec = .ok i ∧
      CommandRun s i t := by
  cases h with
  | waits => exact .inl ⟨.of_eq rfl rfl rfl, rfl, rfl, rfl, rfl, rfl⟩
  | faulted k op => exact .inl (State.raise_keepsSetup k op s)
  | rejected b => exact .inl (State.respond_keepsSetup b s)
  | command rec i t hq hp hd hr => exact .inr ⟨rec, i, hq, hp, hd, hr⟩
  | frame f t _ _ he => exact .inl he.keepsSetup
  | phase t _ he => exact .inl he.keepsSetup

/-- A step leaves the setup as it is, or it is CTRL's run of the outstanding record's instruction. -/
theorem step_keepsSetup_or_command {s t : State} (h : step s = .next t) :
    KeepsSetup s t ∨ ∃ rec i, commandNext s rec ∧ decodeRecord rec = .ok i ∧ CommandRun s.takeMove i t := by
  rcases step_effect h with hm | ⟨hc, he⟩
  · exact .inl (s.takeMove_keepsSetup.trans hm.keepsSetup)
  · rcases he.keepsSetup_or_command with hk | ⟨rec, i, hq, hp, hd, hr⟩
    · exact .inl (s.takeMove_keepsSetup.trans hk)
    · exact .inr ⟨rec, i, ⟨hc, hq, hp⟩, hd, hr⟩

end Sys2Proof.Machine
end

section
/-! The settings: the receive windows (O23) and the rates (O55). -/

namespace Sys2Proof.Machine

/-! ### The window invariant (R57) -/

/-- The window invariant speaks of three settings only. -/
theorem State.windowInv_of_eq {s t : State} (hdelay : t.settings.rx1Delay = s.settings.rx1Delay)
    (hwindow : t.settings.rx1Window = s.settings.rx1Window) (hrx2 : t.settings.rx2Delay = s.settings.rx2Delay)
    (h : s.windowInv) : t.windowInv := by
  unfold State.windowInv
  rwa [hdelay, hwindow, hrx2]

theorem KeepsSetup.windowInv {s t : State} (h : KeepsSetup s t) (hs : s.windowInv) : t.windowInv := by
  unfold State.windowInv
  rwa [h.settings]

/-- The clamp establishes the invariant, whatever the windows were (R320, R322, R323). -/
theorem State.clampRx2_windowInv (s : State) : s.clampRx2.windowInv := by
  simp only [State.windowInv, State.clampRx2_settings, toNat_maxU32, rx1Close, toNat_sat32]
  exact le_max_right _ _

theorem CommandEffect.windowInv {i : Instr} {s t : State} (h : CommandEffect s i t) (hs : s.windowInv) :
    t.windowInv := by
  cases h with
  | rx1Window | rx1Delay | rx2Delay => exact State.clampRx2_windowInv _
  | tick t _ ht => exact ht.keeps.1.windowInv hs
  | _ => exact State.windowInv_of_eq (by simp) (by simp) (by simp) hs

theorem CommandRun.windowInv {i : Instr} {s t : State} (h : CommandRun s i t) (hs : s.windowInv) : t.windowInv := by
  cases h with
  | answered i u b he => exact he.windowInv hs
  | joinStarted => exact State.windowInv_of_eq (by simp) (by simp) (by simp) hs
  | cycleStarted kind p u _ _ _ hu => exact State.windowInv_of_eq (by simp [hu]) (by simp [hu]) (by simp [hu]) hs

/-- Settles O23: only a command writes a setting, and the setters that could break the window invariant clamp. -/
theorem windowInvariantKeptByEveryStep : Obligations.WindowInvariantKeptByEveryStep := by
  intro s t hs h
  rcases step_keepsSetup_or_command h with hk | ⟨rec, i, -, -, hr⟩
  · exact hk.windowInv hs
  · exact hr.windowInv hs

/-! ### The rate invariant (R45 to R47) -/

theorem State.rateInv_of_eq {s t : State} (htxCh : t.settings.txCh = s.settings.txCh)
    (hrxCh : t.settings.rxCh = s.settings.rxCh) (htxDr : t.settings.txDr = s.settings.txDr)
    (hrxDr : t.settings.rxDr = s.settings.rxDr) (h : s.rateInv) : t.rateInv := by
  unfold State.rateInv
  rwa [htxCh, hrxCh, htxDr, hrxDr]

theorem KeepsSetup.rateInv {s t : State} (h : KeepsSetup s t) (hs : s.rateInv) : t.rateInv := by
  unfold State.rateInv
  rwa [h.settings]

/-- A hop sets RX_CH with TX_CH and leaves the rates (R373). -/
theorem hopChannel_rateInv {s : State} (h : s.rateInv) : (hopChannel s).rateInv := by
  unfold hopChannel
  split
  · exact ⟨rfl, h.2⟩
  · exact h

theorem CommandEffect.rateInv {i : Instr} {s t : State} (h : CommandEffect s i t) (hs : s.rateInv) : t.rateInv := by
  cases h with
  | setTxCh c m i => exact ⟨rfl, hs.2⟩
  | setTxDr d i hd => exact ⟨hs.1, rfl, hd⟩
  | tick t _ ht => exact ht.keeps.1.rateInv hs
  | _ => exact State.rateInv_of_eq (by simp) (by simp) (by simp) (by simp) hs

/-- A transmission takes the settings of its channel hop. -/
theorem CommandRun.rateInv {i : Instr} {s t : State} (h : CommandRun s i t) (hs : s.rateInv) : t.rateInv := by
  cases h with
  | answered i u b he => exact he.rateInv hs
  | joinStarted =>
    have hp := hopChannel_rateInv (s := { s with status.cmd := .join, session.classCur := .a }) hs
    exact hp
  | cycleStarted kind p u _ _ _ hu =>
    have hp := hopChannel_rateInv (s := { s with session.classCur := .a }) hs
    exact hu ▸ hp

/-- Settles O55: only a command writes a setting, and each setter of a channel or a rate writes its receive partner. -/
theorem rateInvariantKeptByEveryStep : Obligations.RateInvariantKeptByEveryStep := by
  intro s t hs h
  rcases step_keepsSetup_or_command h with hk | ⟨rec, i, -, -, hr⟩
  · exact hk.rateInv hs
  · exact hr.rateInv hs

end Sys2Proof.Machine
end

section
/-! SUPPORT. What decodes at the command port is the encoding of what it decodes to (30_encoding.md R131 to R133). -/

namespace Sys2Proof

/-! ### The operand forms -/

theorem textOperand_eq_ok {n : Nat} {args : List Byte} {k : List Byte → Instr} {i : Instr} :
    textOperand n args k = .ok i ↔ args.length = n ∧ k args = i := by
  unfold textOperand
  split <;> simp_all

theorem noOperand_eq_ok {args : List Byte} {i j : Instr} : noOperand args j = .ok i ↔ args = [] ∧ j = i := by
  unfold noOperand
  split <;> simp

theorem byteOperand_eq_ok {args : List Byte} {k : Byte → Instr} {i : Instr} :
    byteOperand args k = .ok i ↔ ∃ b, args = [b] ∧ k b = i := by
  unfold byteOperand
  split <;> simp_all

theorem u16Operand_eq_ok {args : List Byte} {k : U16 → Instr} {i : Instr} :
    u16Operand args k = .ok i ↔ ∃ v, args = le16 v ∧ k v = i := by
  constructor
  · intro h
    unfold u16Operand at h
    split at h
    · next b0 b1 =>
      injection h with h
      exact ⟨ofLe16 b0 b1, (le16_ofLe16 b0 b1).symm, h⟩
    · cases h
  · rintro ⟨v, rfl, rfl⟩
    simp [u16Operand, le16]

theorem u32Operand_eq_ok {args : List Byte} {k : U32 → Instr} {i : Instr} :
    u32Operand args k = .ok i ↔ ∃ v, args = le32 v ∧ k v = i := by
  constructor
  · intro h
    unfold u32Operand at h
    split at h
    · next b0 b1 b2 b3 =>
      injection h with h
      exact ⟨ofLe32 b0 b1 b2 b3, (le32_ofLe32 b0 b1 b2 b3).symm, h⟩
    · cases h
  · rintro ⟨v, rfl, rfl⟩
    simp [u32Operand, le32]

theorem uplinkOperands_eq_ok {args : List Byte} {i : Instr} :
    uplinkOperands args = .ok i ↔ ∃ len confirm port payload, args = len :: confirm :: port :: payload ∧
      payload.length = len.toNat ∧ Instr.sendUplink confirm port payload = i := by
  unfold uplinkOperands
  split
  · split <;> simp_all
  · simp_all

/-! ### The record -/

/-- A record that decodes is the encoding of its instruction: the opcode determines the operands' form. -/
theorem encode_of_decodeRecord {rec : List Byte} {i : Instr} (h : decodeRecord rec = .ok i) : encode i = rec := by
  cases rec with
  | nil => cases h
  | cons op args =>
    have opcode : ∀ {n : Nat}, op.toNat = n → BitVec.ofNat 8 n = op := by
      rintro _ rfl
      simp
    simp only [decodeRecord] at h
    split at h
    case h_1 hop | h_2 hop | h_3 hop | h_4 hop | h_5 hop | h_6 hop =>
      obtain ⟨-, rfl⟩ := textOperand_eq_ok.1 h
      rw [encode, opcode hop]
    case h_7 hop | h_8 hop =>
      obtain ⟨v, rfl, rfl⟩ := u16Operand_eq_ok.1 h
      rw [encode, opcode hop]
    case h_11 hop | h_12 hop | h_13 hop | h_20 hop | h_29 hop =>
      obtain ⟨b, rfl, rfl⟩ := byteOperand_eq_ok.1 h
      rw [encode, opcode hop]
    case h_16 hop | h_17 hop | h_18 hop | h_19 hop | h_21 hop =>
      obtain ⟨v, rfl, rfl⟩ := u32Operand_eq_ok.1 h
      rw [encode, opcode hop]
    case h_25 hop =>
      obtain ⟨len, confirm, port, payload, rfl, hl, rfl⟩ := uplinkOperands_eq_ok.1 h
      rw [encode, opcode hop, hl, BitVec.ofNat_toNat, BitVec.setWidth_eq]
    case h_32 => cases h
    all_goals
      rename_i hop
      obtain ⟨rfl, rfl⟩ := noOperand_eq_ok.1 h
      rw [encode, opcode hop]

end Sys2Proof
end

section
/-! The identity registers (O51), the uplink counter (O52) and what is sticky (O54). -/

namespace Sys2Proof.Machine

/-! ### The identity (R31 to R33) -/

/-- A command's run leaves the identity, or is one of the three identity setters and leaves the other two registers. -/
theorem CommandRun.identity_cases {i : Instr} {s t : State} (h : CommandRun s i t) :
    t.identity = s.identity ∨
    (∃ text, i = .setDeveui text ∧ t.identity.appEui = s.identity.appEui ∧ t.identity.appKey = s.identity.appKey) ∨
    (∃ text, i = .setAppeui text ∧ t.identity.devEui = s.identity.devEui ∧ t.identity.appKey = s.identity.appKey) ∨
    (∃ text, i = .setAppkey text ∧ t.identity.devEui = s.identity.devEui ∧ t.identity.appEui = s.identity.appEui) := by
  cases h with
  | joinStarted => exact .inl (by simp)
  | cycleStarted kind p u _ _ _ hu => exact .inl (by simp [hu])
  | answered i u b he =>
    cases he with
    | devEui text => exact .inr (.inl ⟨text, rfl, by simp, by simp⟩)
    | appEui text => exact .inr (.inr (.inl ⟨text, rfl, by simp, by simp⟩))
    | appKey text => exact .inr (.inr (.inr ⟨text, rfl, by simp, by simp⟩))
    | tick t _ ht => exact .inl ht.keeps.1.identity
    | _ => exact .inl (by simp)

/-- Settles O51: only a command's run writes the identity, and the record of such a run begins with its opcode. -/
theorem identityWrittenOnlyByItsSetters : Obligations.IdentityWrittenOnlyByItsSetters := by
  intro s t h
  rcases step_keepsSetup_or_command h with hk | ⟨rec, i, hc, hd, hr⟩
  · simp [hk.identity]
  · obtain rfl := encode_of_decodeRecord hd
    rcases hr.identity_cases with hid | ⟨text, rfl, happ, hkey⟩ | ⟨text, rfl, hdev, hkey⟩ | ⟨text, rfl, hdev, happ⟩
    · simp [hid]
    · exact ⟨fun _ => ⟨text, hc⟩, fun hne => absurd happ hne, fun hne => absurd hkey hne⟩
    · exact ⟨fun hne => absurd hdev hne, fun _ => ⟨text, hc⟩, fun hne => absurd hkey hne⟩
    · exact ⟨fun hne => absurd hdev hne, fun hne => absurd happ hne, fun _ => ⟨text, hc⟩⟩

/-! ### The frames that are transmitted (R153, R156, R157, R233) -/

theorem prepareJoin_frame_head (s : State) : (prepareJoin s).sequencer.frame.getD 0 0#8 = 0x00#8 := rfl

theorem dataUpFrame_head (kind : DataKind) (s : State) (p : List Byte) :
    (dataUpFrame kind s p).getD 0 0#8 = 0x40#8 ∨ (dataUpFrame kind s p).getD 0 0#8 = 0x80#8 := by
  have hhead : (dataUpFrame kind s p).getD 0 0#8 = dataUpMhdr kind s := rfl
  rw [hhead, dataUpMhdr]
  split
  · exact .inr rfl
  · exact .inl rfl

/-- MHDR, the four bytes of DevAddr and FCtrl stand before the counter. -/
theorem dataUpFrame_counter (kind : DataKind) (s : State) (p : List Byte) :
    ((dataUpFrame kind s p).drop 6).take 2 = le16 s.session.fcntTx := by
  have haddr : (revBytes s.session.devAddr).length = 4 := by simp [revBytes]
  have hsplit : dataUpFrame kind s p =
      (dataUpMhdr kind s :: (revBytes s.session.devAddr ++ [dataUpFctrl kind])) ++
        (le16 s.session.fcntTx ++
          (dataUpBody kind s p ++ micDataList s 0#1 s.session.fcntTx (dataUpMsg kind s p))) := by
    simp [dataUpFrame, dataUpMsg]
  rw [hsplit, List.drop_left' (by simp [haddr]), List.take_left' (by simp [le16])]

theorem State.transmit_txLog {s u : State} {e : TxEntry} (h : u.observed.txLog = s.observed.txLog) :
    (u.transmit e).observed.txLog = s.observed.txLog ++ [e] := by
  rw [State.transmit_observed, h]

/-- A command's run leaves TXLOG, or appends a join-request and leaves the counter, or appends a data uplink that
carries the counter and advances it (R271, R304, R305). -/
theorem CommandRun.txLog_cases {i : Instr} {s t : State} (h : CommandRun s i t) :
    t.observed.txLog = s.observed.txLog ∨
    ∃ e, t.observed.txLog = s.observed.txLog ++ [e] ∧
      ((e.frame.getD 0 0#8 = 0x00#8 ∧ t.session.fcntTx = s.session.fcntTx) ∨
       ((e.frame.getD 0 0#8 = 0x40#8 ∨ e.frame.getD 0 0#8 = 0x80#8) ∧
        (e.frame.drop 6).take 2 = le16 s.session.fcntTx ∧
        t.session.fcntTx = s.session.fcntTx + 1#16)) := by
  cases h with
  | answered i u b he => exact .inl (by simpa using he.keeps.1.txLog)
  | joinStarted => exact .inr ⟨_, State.transmit_txLog (by simp), .inl ⟨prepareJoin_frame_head s, by simp⟩⟩
  | cycleStarted kind p u _ _ _ hu =>
    subst hu
    refine .inr ⟨_, State.transmit_txLog (by simp), .inr ⟨dataUpFrame_head kind _ p, ?_, by simp⟩⟩
    simpa using dataUpFrame_counter kind (prepareCycle s) p

/-- Settles O52: only a command's run transmits. -/
theorem eachDataUplinkAdvancesTheCounter : Obligations.EachDataUplinkAdvancesTheCounter := by
  intro s t h
  rcases step_keepsSetup_or_command h with hk | ⟨rec, i, -, -, hr⟩
  · exact .inl hk.txLog
  · rcases hr.txLog_cases with hl | ⟨e, hl, ⟨hhead, hc⟩ | ⟨hhead, hb, hc⟩⟩
    · exact .inl hl
    · exact .inr ⟨e, hl, .inl ⟨hhead, hc⟩⟩
    · exact .inr ⟨e, hl, .inr ⟨hhead, hb, by rw [hc, BitVec.toNat_add]; rfl⟩⟩

/-! ### What is sticky (R69, R74, R510) -/

/-- FCNT_WRAPPED stays set and every fault record stays. -/
structure Sticky (s t : State) : Prop where
  wrapped : s.status.fcntWrapped = true → t.status.fcntWrapped = true
  faults : ∀ r ∈ s.faults, r ∈ t.faults

theorem KeepsRecords.sticky {s t : State} (h : KeepsRecords s t) : Sticky s t :=
  ⟨fun hw => h.fcntWrapped.trans hw, fun _ hr => h.faults hr⟩

/-- FCNT_ADVANCE may set FCNT_WRAPPED; nothing of a run clears it, and a run takes no fault. -/
theorem CommandRun.sticky {i : Instr} {s t : State} (h : CommandRun s i t) : Sticky s t := by
  cases h with
  | answered i u b he => exact (he.keeps.1.trans (u.respond_keepsSetup b).toKeepsRecords).sticky
  | joinStarted => exact ⟨fun hw => by simpa using hw, fun r hr => by simpa using hr⟩
  | cycleStarted kind p u _ _ _ hu =>
    subst hu
    exact ⟨fun hw => by simp [hw], fun r hr => by simpa using hr⟩

/-- Settles O54: what is no command's run keeps both, and so does a run. -/
theorem wrapFlagAndFaultsAreSticky : Obligations.WrapFlagAndFaultsAreSticky := by
  constructor
  · intro s t h
    rcases step_keepsSetup_or_command h with hk | ⟨rec, i, -, -, hr⟩
    · exact hk.sticky.wrapped
    · exact hr.sticky.wrapped
  · intro i s t h
    suffices hs : Sticky s t from ⟨hs.wrapped, hs.faults⟩
    rcases exec_effect h with rfl | ⟨k, op, rfl⟩ | hr | ⟨f, he⟩
    · exact ⟨id, fun _ hr => hr⟩
    · exact (s.raise_keepsSetup k op).sticky
    · exact hr.sticky
    · exact he.keepsSetup.sticky

end Sys2Proof.Machine
end

section
/-! The sequencer (O57) and the radio before its INIT (O58). -/

namespace Sys2Proof.Machine

/-! ### The command a phase belongs to, and the transmission it waits for (R61, R70, R302, R531) -/

theorem State.commandInv_of_idle {s : State} (hq : s.sequencer.seq = .idle) (hc : s.status.cmd ≠ .join) :
    s.commandInv := by
  unfold State.commandInv
  rwa [hq]

/-- Outside the two phases that wait for a transmission none is pending. -/
theorem State.pendingInv.txPending_eq_false {s : State} (h : s.pendingInv) (hj : s.sequencer.seq ≠ .joinTx)
    (hc : s.sequencer.seq ≠ .cycTx) : s.radio.txPending = false := by
  cases hp : s.radio.txPending
  · rfl
  · exact ((h hp).elim hj hc).elim

/-- CMD and TX_PENDING fit the phase. -/
def State.phaseInv (s : State) : Prop := s.commandInv ∧ s.pendingInv

/-- Nothing is pending and no join runs in IDLE. -/
theorem State.phaseInv_of_idle {s : State} (hq : s.sequencer.seq = .idle) (hc : s.status.cmd ≠ .join)
    (hp : s.radio.txPending = false) : s.phaseInv :=
  ⟨State.commandInv_of_idle hq hc, fun ht => nomatch hp.symm.trans ht⟩

theorem MoveEffect.phaseInv {s t : State} (h : MoveEffect s t) (hs : s.phaseInv) : t.phaseInv := by
  cases h with
  | txDone => exact ⟨hs.1, fun ht => nomatch ht⟩
  | passed | offered | delivered | ticked => exact hs

theorem TickEffect.cmd {s t : State} (h : TickEffect s t) : t.status.cmd = s.status.cmd := by
  have armed : ∀ {u}, Armed s u → u.status.cmd = s.status.cmd := fun ha => by cases ha <;> rfl
  cases h with
  | nothing | disarm => rfl
  | armed u _ ha => exact armed ha
  | noMessage u f _ ha => simpa using armed ha
  | header u f d _ ha => simpa using armed ha
  | message u f d _ ha => simpa using armed ha

/-- No command that answers at once leaves CMD at JOIN. -/
theorem CommandEffect.cmd_ne_join {i : Instr} {s t : State} (h : CommandEffect s i t) (hs : s.status.cmd ≠ .join) :
    t.status.cmd ≠ .join := by
  cases h with
  | tick t _ ht => exact ht.cmd ▸ hs
  | _ => simp [hs]

/-- A run started in IDLE stays there, or enters the transmit phase of its own command. -/
theorem CommandRun.phaseInv {i : Instr} {s t : State} (h : CommandRun s i t) (hq : s.sequencer.seq = .idle)
    (hs : s.phaseInv) : t.phaseInv := by
  obtain ⟨hcmd, hpend⟩ := hs
  cases h with
  | answered i u b he =>
    have hne : s.status.cmd ≠ .join := by simpa [State.commandInv, hq] using hcmd
    have hp : s.radio.txPending = false := hpend.txPending_eq_false (by simp [hq]) (by simp [hq])
    exact State.phaseInv_of_idle (he.keeps.2.seq.trans hq) (he.cmd_ne_join hne) (he.keeps.2.txPending.trans hp)
  | joinStarted => exact ⟨⟨by simp, rfl⟩, fun _ => .inl rfl⟩
  | cycleStarted kind p u _ hc _ hu =>
    refine ⟨?_, fun _ => .inr rfl⟩
    simpa [State.commandInv, hu] using hc

theorem ResultEffect.keepsPhase {d : DataDownInfo} {s t : State} (h : ResultEffect d s t) : KeepsPhase s t := by
  cases h <;> constructor <;> simp

theorem CycleEnded.phaseInv {s t : State} (h : CycleEnded s t) (hp : s.radio.txPending = false) : t.phaseInv := by
  cases h <;> exact State.phaseInv_of_idle rfl (nomatch ·) hp

/-- A frame is taken while no transmission is pending; it leaves the phase as it is or ends it in IDLE. -/
theorem FrameEffect.phaseInv {f : List Byte} {s t : State} (h : FrameEffect f s t) (hs : s.phaseInv) : t.phaseInv := by
  obtain ⟨hcmd, hpend⟩ := hs
  cases h with
  | noMessage => exact ⟨hcmd, hpend⟩
  | joined r hq =>
    exact State.phaseInv_of_idle rfl (nomatch ·) (hpend.txPending_eq_false (by simp [hq]) (by simp [hq]))
  | received d u t hq hu ht =>
    have hp : s.radio.txPending = false :=
      hpend.txPending_eq_false (by rcases hq with hq | hq <;> simp [hq]) (by rcases hq with hq | hq <;> simp [hq])
    exact ht.phaseInv (hu.keepsPhase.txPending.trans hp)

/-- Each phase's step goes on to a phase of the same command, or ends in IDLE. -/
theorem PhaseEffect.phaseInv {s t : State} (h : PhaseEffect s t) (hs : s.phaseInv) : t.phaseInv := by
  obtain ⟨hcmd, hpend⟩ := hs
  simp only [State.commandInv] at hcmd
  cases h with
  | joinTxDone hq hp =>
    rw [hq] at hcmd
    exact ⟨hcmd, fun ht => nomatch hp.symm.trans ht⟩
  | cycleTxDone hq hp =>
    rw [hq] at hcmd
    exact ⟨hcmd, fun ht => nomatch hp.symm.trans ht⟩
  | joinTimeout hq =>
    exact State.phaseInv_of_idle rfl (nomatch ·) (hpend.txPending_eq_false (by simp [hq]) (by simp [hq]))
  | openRx1 hq | closeRx1 hq | openRx2 hq =>
    have hp := hpend.txPending_eq_false (by simp [hq]) (by simp [hq])
    rw [hq] at hcmd
    exact ⟨hcmd, fun ht => nomatch hp.symm.trans ht⟩
  | cycleEnd t hq ht => exact ht.phaseInv (hpend.txPending_eq_false (by simp [hq]) (by simp [hq]))

theorem CtrlEffect.phaseInv {s t : State} (h : CtrlEffect s t) (hs : s.phaseInv) : t.phaseInv := by
  cases h with
  | waits | faulted | rejected => exact hs
  | command rec i t hq _ _ hr => exact hr.phaseInv hq hs
  | frame f t _ _ he => exact he.phaseInv hs
  | phase t _ he => exact he.phaseInv hs

/-- Settles O57: by the effects of a step. -/
theorem sequencerInvariantKeptByEveryStep : Obligations.SequencerInvariantKeptByEveryStep := by
  intro s t hcmd hpend h
  have hs : s.takeMove.phaseInv := ⟨hcmd, hpend⟩
  rcases step_effect h with hm | ⟨-, he⟩
  · exact hm.phaseInv hs
  · exact he.phaseInv hs

/-! ### Before INIT (R66, R67, R511) -/

/-- Nothing is delivered to a radio that is off. -/
theorem MoveEffect.readyInv {s t : State} (h : MoveEffect s t) (hs : s.readyInv) : t.readyInv := by
  cases h with
  | delivered f hm =>
    intro hr
    obtain ⟨-, hoff, -⟩ := hs hr
    rw [hoff] at hm
    cases hm
  | passed | offered | txDone | ticked => exact hs

/-- A tick that does anything drives the radio, so it was ready. -/
theorem TickEffect.readyInv {s t : State} (h : TickEffect s t) (hs : s.readyInv) : t.readyInv := by
  intro hr
  have hready : s.status.radioReady = false := h.keeps.1.radioReady ▸ hr
  have armed : ∀ {u}, Armed s u → u.status.radioReady ≠ true := fun ha hu => by
    rw [ha.keeps.1.radioReady, hready] at hu
    cases hu
  cases h with
  | nothing => exact hs hr
  | disarm _ _ hu => exact nomatch hready.symm.trans hu
  | armed u _ ha hu => exact (armed ha hu).elim
  | noMessage u f _ ha hu => exact (armed ha hu).elim
  | header u f d _ ha hu => exact (armed ha hu).elim
  | message u f d _ ha hu => exact (armed ha hu).elim

theorem CommandEffect.readyInv {i : Instr} {s t : State} (h : CommandEffect s i t) (hs : s.readyInv) :
    t.readyInv := by
  cases h with
  | initialised seed => exact fun hr => nomatch hr
  | mode m i _ hu => exact fun hr => nomatch hu.symm.trans hr
  | tick t _ ht => exact ht.readyInv hs
  | _ => simpa [State.readyInv] using hs

/-- A run that transmits needs a radio that is ready. -/
theorem CommandRun.readyInv {i : Instr} {s t : State} (h : CommandRun s i t) (hs : s.readyInv) : t.readyInv := by
  cases h with
  | answered i u b he => exact he.readyInv hs
  | joinStarted hu =>
    intro hr
    simp [hu] at hr
  | cycleStarted kind p u hready _ _ hu =>
    intro hr
    simp [hu, hready] at hr

/-- Frames and phases come after an INIT, since the radio that is not ready is in IDLE. -/
theorem CtrlEffect.readyInv {s t : State} (h : CtrlEffect s t) (hs : s.readyInv) : t.readyInv := by
  have past_idle : s.sequencer.seq ≠ .idle → KeepsSetup s t → t.readyInv := fun hq hk hr =>
    absurd (hs (hk.radioReady ▸ hr)).1 hq
  cases h with
  | waits | faulted | rejected => exact hs
  | command rec i t _ _ _ hr => exact hr.readyInv hs
  | frame f t hq _ he => exact past_idle hq he.keepsSetup
  | phase t hq he => exact past_idle hq he.keepsSetup

/-- Settles O58: by the effects of a step. -/
theorem radioUntouchedBeforeInit : Obligations.RadioUntouchedBeforeInit := by
  intro s t hs h
  rcases step_effect h with hm | ⟨-, he⟩
  · exact hm.readyInv hs
  · exact he.readyInv hs

end Sys2Proof.Machine
end

section
/-! The buffers, their lengths and the frames (O56). -/

namespace Sys2Proof.Machine

/-! ### The invariant and the operations that touch it (R58, R59, R73, R161, R530) -/

/-- R11: BUF_CAP is at most 242. -/
theorem bufCap_le : Config.bufCap ≤ 242 := Config.bufCapPred.isLt

/-- A length within BUF_CAP is stored as itself in the byte of TXLEN or RXLEN. -/
theorem toNat_ofNat_of_le_bufCap {n : Nat} (h : n ≤ Config.bufCap) : (BitVec.ofNat 8 n).toNat = n := by
  rw [BitVec.toNat_ofNat]
  exact Nat.mod_eq_of_lt (by have := bufCap_le; omega)

/-- Buffers, lengths, announced data and frames are well formed. -/
structure State.StorageInv (s : State) : Prop where
  mem : s.memInv
  latch : s.latchInv
  frame : s.frameInv

theorem State.StorageInv.of_eq {s t : State} (h : s.StorageInv) (htxBuf : t.buffers.txBuf = s.buffers.txBuf)
    (htxLen : t.buffers.txLen = s.buffers.txLen) (hrxBuf : t.buffers.rxBuf = s.buffers.rxBuf)
    (hrxLen : t.buffers.rxLen = s.buffers.rxLen) (hlatch : t.status.rxLatch = s.status.rxLatch)
    (hframe : t.sequencer.frame = s.sequencer.frame) (hslot : t.radio.rxSlot = s.radio.rxSlot) : t.StorageInv := by
  obtain ⟨hm, hl, hf⟩ := h
  constructor
  · unfold State.memInv
    rwa [htxBuf, htxLen, hrxBuf]
  · unfold State.latchInv
    rwa [hrxLen, hlatch]
  · unfold State.frameInv
    rwa [hframe, hslot]

/-- The radio keeps the frame in its slot or drops it. -/
theorem State.StorageInv.commandMode {s : State} (h : s.StorageInv) (m : RadioMode) :
    (s.commandMode m).StorageInv := by
  refine ⟨h.mem, h.latch, h.frame.1, fun f hf => h.frame.2 f ?_⟩
  rw [State.commandMode_radio] at hf
  split at hf
  · exact hf
  · cases hf

theorem State.StorageInv.readSlot {s : State} {f : List Byte} (h : s.StorageInv) (hf : s.radio.rxSlot = some f) :
    (s.readSlot f).StorageInv :=
  ⟨h.mem, h.latch, (h.frame.2 f hf).2, fun _ hn => nomatch hn⟩

theorem State.StorageInv.acceptHeader {s : State} (h : s.StorageInv) (d : DataDownInfo) :
    (s.acceptHeader d).StorageInv :=
  h.of_eq (by simp) (by simp) (by simp) (by simp) (by simp) (by simp) (by simp)

theorem State.StorageInv.emitMessage {s : State} (h : s.StorageInv) (p : List Byte) (b : Bool) (q : Byte) :
    (s.emitMessage p b q).StorageInv :=
  h.of_eq (by simp) (by simp) (by simp) (by simp) (by simp) (by simp) (by simp)

/-- A frame is put into FRAME to be sent. -/
theorem State.StorageInv.putFrame {s : State} (h : s.StorageInv) {f : List Byte} (hf : f.length ≤ Config.maxPhy)
    (m : MsgMeta) : { s with sequencer.frame := f, buffers.msgMeta := m }.StorageInv :=
  ⟨h.mem, h.latch, hf, h.frame.2⟩

/-- No data is announced. -/
theorem State.StorageInv.clearRx {s : State} (h : s.StorageInv) :
    { s with buffers.rxLen := 0#8, status.rxLatch := false }.StorageInv :=
  ⟨h.mem, ⟨fun hl => (nomatch hl), Nat.zero_le _⟩, h.frame⟩

theorem State.StorageInv.putRxBuf {s : State} (h : s.StorageInv) {m : Memory} (hm : Memory.wf m = true) :
    { s with buffers.rxBuf := m }.StorageInv :=
  ⟨⟨h.mem.1, hm, h.mem.2.2⟩, h.latch, h.frame⟩

/-- A payload within BUF_CAP is written to RXBUF. -/
theorem State.StorageInv.wf_writeRxBuf {s : State} (h : s.StorageInv) {p : List Byte}
    (hp : p.length ≤ Config.bufCap) : Memory.wf (Memory.writeMany s.buffers.rxBuf 0 p) = true :=
  Memory.wf_writeMany (by omega) h.mem.2.1

/-- A payload of at least one byte may be announced with its length. -/
theorem State.StorageInv.announce {s : State} (h : s.StorageInv) {p : List Byte} (hne : p ≠ [])
    (hp : p.length ≤ Config.bufCap) :
    { s with buffers.rxLen := BitVec.ofNat 8 p.length, status.rxLatch := true }.StorageInv := by
  have hlen : (BitVec.ofNat 8 p.length).toNat = p.length := toNat_ofNat_of_le_bufCap hp
  refine ⟨h.mem, ⟨fun _ => ?_, hlen.trans_le hp⟩, h.frame⟩
  exact (List.length_pos_iff.2 hne).trans_eq hlen.symm

/-! ### The effects -/

theorem MoveEffect.storageInv {s t : State} (h : MoveEffect s t) (hs : s.StorageInv) : t.StorageInv := by
  cases h with
  | delivered f _ hpos hle =>
    refine ⟨hs.mem, hs.latch, hs.frame.1, fun g hg => ?_⟩
    injection hg with hg
    exact hg ▸ ⟨hpos, hle⟩
  | passed | offered | txDone | ticked => exact ⟨hs.mem, hs.latch, hs.frame⟩

theorem Armed.storageInv {s t : State} (h : Armed s t) (hs : s.StorageInv) : t.StorageInv := by
  cases h with
  | before => exact hs
  | now => exact (hs.commandMode rx2Listen).of_eq rfl rfl rfl rfl rfl rfl rfl

/-- The poll takes the slot's frame, may write its payload, and announces nothing (R355). -/
theorem TickEffect.storageInv {s t : State} (h : TickEffect s t) (hs : s.StorageInv) : t.StorageInv := by
  cases h with
  | nothing => exact hs
  | disarm => exact (hs.commandMode .standby).of_eq rfl rfl rfl rfl rfl rfl rfl
  | armed u _ ha => exact ha.storageInv hs
  | noMessage u f _ ha _ hf => exact ((ha.storageInv hs).readSlot hf).clearRx
  | header u f d _ ha _ hf => exact (((ha.storageInv hs).readSlot hf).acceptHeader d).clearRx
  | message u f d _ ha _ hf _ _ hl =>
    have hu := ha.storageInv hs
    exact ((((hu.readSlot hf).acceptHeader d).putRxBuf (hu.wf_writeRxBuf hl)).emitMessage _ _ _).clearRx

/-- A payload to send fits TXBUF, and TXLEN is its length (R300). -/
theorem CommandEffect.storageInv {i : Instr} {s t : State} (h : CommandEffect s i t) (hs : s.StorageInv) :
    t.StorageInv := by
  cases h with
  | initialised seed =>
    have hd : { s with schedule.draws := s.schedule.draws + 1 }.StorageInv := hs.of_eq rfl rfl rfl rfl rfl rfl rfl
    exact (hd.commandMode .standby).of_eq rfl rfl rfl rfl rfl rfl rfl
  | mode m i => exact (hs.commandMode m).of_eq rfl rfl rfl rfl rfl rfl rfl
  | queued confirm port p i hp =>
    exact ⟨⟨Memory.wf_writeMany (by omega) hs.mem.1, hs.mem.2.1, (toNat_ofNat_of_le_bufCap hp).trans_le hp⟩,
      hs.latch, hs.frame⟩
  | dataRead => exact ⟨hs.mem, ⟨fun hl => (nomatch hl), hs.latch.2⟩, hs.frame⟩
  | tick t _ ht => exact ht.storageInv hs
  | _ => exact hs.of_eq (by simp) (by simp) (by simp) (by simp) (by simp) (by simp) (by simp)

/-- The frames sent are short: a join-request has 23 bytes, a data uplink at most 13 and its payload's. -/
theorem CommandRun.storageInv {i : Instr} {s t : State} (h : CommandRun s i t) (hs : s.StorageInv) : t.StorageInv := by
  cases h with
  | answered i u b he => exact (he.storageInv hs).of_eq rfl rfl rfl rfl rfl rfl rfl
  | joinStarted =>
    have hlen : (prepareJoin s).sequencer.frame.length ≤ Config.maxPhy := by
      have h23 : (prepareJoin s).sequencer.frame.length = 23 := length_joinRequestFrame _
      simp [h23, Config.maxPhy]
    have hp : (prepareJoin s).StorageInv :=
      (hs.putFrame hlen (prepareJoin s).buffers.msgMeta).of_eq (by simp) (by simp) (by simp) (by simp) (by simp)
        (by simp) (by simp)
    exact (hp.commandMode .standby).of_eq rfl rfl rfl rfl rfl rfl rfl
  | cycleStarted kind p u _ _ hl hu =>
    have hlen : (dataUpFrame kind (prepareCycle s) p).length ≤ Config.maxPhy := by
      have hcap := bufCap_le
      rw [length_dataUpFrame, Config.maxPhy]
      split <;> omega
    have hp : u.StorageInv :=
      (hs.putFrame hlen (dataUpMeta kind (prepareCycle s))).of_eq (by simp [hu]) (by simp [hu]) (by simp [hu])
        (by simp [hu]) (by simp [hu]) (by simp [hu]) (by simp [hu])
    exact (hp.commandMode .standby).of_eq rfl rfl rfl rfl rfl rfl rfl

theorem ResultEffect.storageInv {d : DataDownInfo} {s t : State} (h : ResultEffect d s t) (hs : s.StorageInv) :
    t.StorageInv := by
  cases h with
  | empty => exact hs.acceptHeader d
  | payload hne hl =>
    have hw := ((hs.acceptHeader d).putRxBuf (hs.wf_writeRxBuf hl)).announce hne hl
    exact (hw.emitMessage d.payload d.confirmed d.fport).of_eq (by simp) (by simp) (by simp) (by simp) (by simp)
      (by simp) (by simp)

theorem CycleEnded.storageInv {s t : State} (h : CycleEnded s t) (hs : s.StorageInv) : t.StorageInv := by
  cases h with
  | standby => exact (hs.commandMode .standby).of_eq rfl rfl rfl rfl rfl rfl rfl
  | armed => exact (hs.commandMode rx2Listen).of_eq rfl rfl rfl rfl rfl rfl rfl

theorem FrameEffect.storageInv {f : List Byte} {s t : State} (h : FrameEffect f s t)
    (hf : s.radio.rxSlot = some f) (hs : s.StorageInv) : t.StorageInv := by
  have hr := hs.readSlot hf
  cases h with
  | noMessage => exact hr
  | joined r => exact (hr.commandMode .standby).of_eq rfl rfl rfl rfl rfl rfl rfl
  | received d u t _ hu ht => exact ht.storageInv (hu.storageInv hr)

theorem PhaseEffect.storageInv {s t : State} (h : PhaseEffect s t) (hs : s.StorageInv) : t.StorageInv := by
  cases h with
  | joinTxDone | joinTimeout | openRx1 | closeRx1 | openRx2 =>
    exact (hs.commandMode .standby).of_eq rfl rfl rfl rfl rfl rfl rfl
  | cycleTxDone => exact hs.of_eq rfl rfl rfl rfl rfl rfl rfl
  | cycleEnd t _ ht => exact ht.storageInv hs

theorem CtrlEffect.storageInv {s t : State} (h : CtrlEffect s t) (hs : s.StorageInv) : t.StorageInv := by
  cases h with
  | waits => exact hs
  | faulted | rejected => exact hs.of_eq rfl rfl rfl rfl rfl rfl rfl
  | command rec i t _ _ _ hr => exact hr.storageInv hs
  | frame f t _ hf he => exact he.storageInv hf hs
  | phase t _ he => exact he.storageInv hs

/-- Settles O56: by the effects of a step. -/
theorem storageInvariantsKeptByEveryStep : Obligations.StorageInvariantsKeptByEveryStep := by
  intro s t hmem hlatch hframe h
  have hs : s.takeMove.StorageInv := ⟨hmem, hlatch, hframe⟩
  obtain ⟨hm, hl, hf⟩ : t.StorageInv := by
    rcases step_effect h with hm | ⟨-, he⟩
    · exact hm.storageInv hs
    · exact he.storageInv hs
  exact ⟨hm, hl, hf⟩

end Sys2Proof.Machine
end

section
/-! JOIN_STATE gates nothing (O53; 10_state.md R64, 42_join.md R270): every operation does the same, up to JOIN_STATE, in
two states that differ only in it. The operations are taken one by one and put together as the step puts them together. -/

namespace Sys2Proof.Machine

/-! ### Operations that do not look at JOIN_STATE -/

/-- `s` with another value in JOIN_STATE. -/
def State.withJoin (j : JoinState) (s : State) : State := { s with status.joinState := j }

/-- The two states differ in JOIN_STATE at most. -/
def SameButJoin (s t : State) : Prop := s.withJoin .idle = t.withJoin .idle

/-- States that differ in JOIN_STATE at most give the same result of `f`, as `view` shows it. -/
def Blind {α β : Type} (view : α → β) (f : State → α) : Prop :=
  ∀ ⦃s t⦄, SameButJoin s t → view (f s) = view (f t)

/-- The view of an operation that may raise a fault. -/
def forgetJoin (r : Except ModelFault State) : Except ModelFault State := r.map (State.withJoin .idle)

/-- The view of a step's outcome. -/
def forgetJoinNext : Host.Outcome State Fault Refusal → Host.Outcome State Fault Refusal
  | .next t => .next (t.withJoin .idle)
  | .fault r => .fault r
  | .refused r => .refused r

/-- An update, an operation and a step that do the same up to JOIN_STATE. -/
abbrev BlindUpdate : (State → State) → Prop := Blind (State.withJoin .idle)
abbrev BlindOp : (State → Except ModelFault State) → Prop := Blind forgetJoin
abbrev BlindStep : (State → Host.Outcome State Fault Refusal) → Prop := Blind forgetJoinNext

theorem State.withJoin_sameButJoin (j : JoinState) (s : State) : SameButJoin (s.withJoin j) s := rfl

/-- It suffices to compare each state with itself after a write to JOIN_STATE. -/
theorem Blind.of_withJoin {α β : Type} {view : α → β} {f : State → α}
    (h : ∀ s j, view (f (s.withJoin j)) = view (f s)) : Blind view f := by
  intro s t hst
  have hs : t.withJoin s.status.joinState = s := (congrArg (State.withJoin s.status.joinState) hst).symm
  exact hs ▸ h t s.status.joinState

theorem SameButJoin.identity {s t : State} (h : SameButJoin s t) : s.identity = t.identity :=
  Blind.of_withJoin (view := id) (f := fun u => u.identity) (fun _ _ => rfl) h

theorem SameButJoin.session {s t : State} (h : SameButJoin s t) : s.session = t.session :=
  Blind.of_withJoin (view := id) (f := fun u => u.session) (fun _ _ => rfl) h

theorem SameButJoin.settings {s t : State} (h : SameButJoin s t) : s.settings = t.settings :=
  Blind.of_withJoin (view := id) (f := fun u => u.settings) (fun _ _ => rfl) h

theorem SameButJoin.cmd {s t : State} (h : SameButJoin s t) : s.status.cmd = t.status.cmd :=
  Blind.of_withJoin (view := id) (f := fun u => u.status.cmd) (fun _ _ => rfl) h

theorem SameButJoin.sequencer {s t : State} (h : SameButJoin s t) : s.sequencer = t.sequencer :=
  Blind.of_withJoin (view := id) (f := fun u => u.sequencer) (fun _ _ => rfl) h

theorem SameButJoin.rxSlot {s t : State} (h : SameButJoin s t) : s.radio.rxSlot = t.radio.rxSlot :=
  Blind.of_withJoin (view := id) (f := fun u => u.radio.rxSlot) (fun _ _ => rfl) h

/-! ### How they are put together -/

theorem Blind.comp {α β : Type} {view : α → β} {f : State → α} {g : State → State} (hf : Blind view f)
    (hg : BlindUpdate g) : Blind view fun s => f (g s) := fun _ _ h => hf (hg h)

/-- A branch on what does not depend on JOIN_STATE. -/
theorem Blind.ite {α β : Type} {view : α → β} {c : State → Prop} [DecidablePred c] {f g : State → α} (hc : Blind id c)
    (hf : Blind view f) (hg : Blind view g) : Blind view fun s => if c s then f s else g s := by
  intro s t h
  have hst : c s = c t := hc h
  simp only [hst]
  split
  · exact hf h
  · exact hg h

/-- What does not depend on JOIN_STATE may be read first. -/
theorem Blind.bindRead {α : Type} {f : State → Except ModelFault α} {g : α → State → Except ModelFault State}
    (hf : Blind id f) (hg : ∀ a, BlindOp (g a)) : BlindOp fun s => f s >>= fun a => g a s := by
  intro s t h
  have hst : f s = f t := hf h
  simp only [hst]
  cases f t with
  | error k => rfl
  | ok a => exact hg a h

theorem blind_const {α β : Type} {view : α → β} (a : α) : Blind view fun _ => a := fun _ _ _ => rfl

theorem Blind.ok {g : State → State} (hg : BlindUpdate g) : BlindOp fun s => .ok (g s) := fun _ _ h =>
  congrArg Except.ok (hg h)

theorem Blind.next {g : State → State} (hg : BlindUpdate g) : BlindStep fun s => .next (g s) := fun _ _ h =>
  congrArg Host.Outcome.next (hg h)

/-- Where both results are the same up to JOIN_STATE, they are the same fault or both a state. -/
theorem forgetJoin_eq_iff {r r' : Except ModelFault State} : forgetJoin r = forgetJoin r' ↔
    (∃ k, r = .error k ∧ r' = .error k) ∨ ∃ s t, r = .ok s ∧ r' = .ok t ∧ SameButJoin s t := by
  cases r <;> cases r' <;> simp [forgetJoin, Except.map, SameButJoin, eq_comm]

theorem Blind.bind {f g : State → Except ModelFault State} (hf : BlindOp f) (hg : BlindOp g) :
    BlindOp fun s => f s >>= g := by
  intro s t h
  rcases forgetJoin_eq_iff.1 (hf h) with ⟨k, hs, ht⟩ | ⟨s', t', hs, ht, h'⟩
  · simp only [hs, ht]
  · simp only [hs, ht]
    exact hg h'

/-- A step that concludes such an operation. -/
theorem Blind.conclude {f : State → Except ModelFault State} (hf : BlindOp f) (op : Byte) :
    BlindStep fun s => conclude op s (f s) := by
  intro s t h
  rcases forgetJoin_eq_iff.1 (hf h) with ⟨k, hs, ht⟩ | ⟨s', t', hs, ht, h'⟩
  · simp only [hs, ht]
    exact congrArg (fun u => Host.Outcome.next (u.raise k op)) h
  · simp only [hs, ht]
    exact congrArg Host.Outcome.next h'

/-! ### The updates -/

theorem blind_id : BlindUpdate fun s => s := fun _ _ h => h

theorem blind_emitMessage (p : List Byte) (b : Bool) (q : Byte) : BlindUpdate (State.emitMessage p b q) :=
  .ite (.of_withJoin fun _ _ => rfl) (.of_withJoin fun _ _ => rfl) blind_id

theorem blind_hopChannel : BlindUpdate hopChannel :=
  .ite (.of_withJoin fun _ _ => rfl) (.of_withJoin fun _ _ => rfl) blind_id

theorem blind_latchAck : BlindUpdate State.latchAck :=
  .ite (.of_withJoin fun _ _ => rfl) (.of_withJoin fun _ _ => rfl) blind_id

theorem blind_acceptHeader (d : DataDownInfo) : BlindUpdate (State.acceptHeader d) :=
  have hraise : BlindUpdate (State.raiseFcntRx d.fcnt) := .of_withJoin fun _ _ => rfl
  have hmeta : BlindUpdate (State.acceptMeta d) := .of_withJoin fun _ _ => rfl
  hraise.comp (blind_latchAck.comp hmeta)

theorem blind_prepareJoin : BlindUpdate prepareJoin :=
  have hencode : BlindUpdate fun s => encodeJoinRequest (drawNonce s) := .of_withJoin fun _ _ => rfl
  hencode.comp (blind_hopChannel.comp (.of_withJoin fun _ _ => rfl))

theorem blind_prepareCycle : BlindUpdate prepareCycle := blind_hopChannel.comp (.of_withJoin fun _ _ => rfl)

/-! ### The radio primitives and the buffers -/

theorem blind_ready : Blind id fun s => s.status.radioReady = true := .of_withJoin fun _ _ => rfl

/-- An operation that needs the radio. -/
theorem Blind.whenReady {g : State → State} (hg : BlindUpdate g) (p : RadioPrim) :
    BlindOp fun s => if s.status.radioReady = true then .ok (g s) else .error (.radioNotReady p) :=
  .ite blind_ready hg.ok (blind_const _)

theorem blind_radioSetMode (m : RadioMode) : BlindOp (radioSetMode m) :=
  Blind.whenReady (g := State.commandMode m) (.of_withJoin fun _ _ => rfl) .setMode

theorem blind_radioRead (f : List Byte) : BlindOp (radioRead f) :=
  Blind.whenReady (g := State.readSlot f) (.of_withJoin fun _ _ => rfl) .read

/-- Continuous receive on RX1's channel. -/
theorem blind_listenRx1 : BlindOp fun s => radioSetMode (.rxcont (.down s.settings.rxCh) s.settings.rxDr) s :=
  Blind.whenReady (g := fun s => s.commandMode (.rxcont (.down s.settings.rxCh) s.settings.rxDr))
    (.of_withJoin fun _ _ => rfl) .setMode

/-- The frame in FRAME handed to the radio. -/
theorem blind_transmitFrame : BlindOp fun s =>
    radioTransmit s.sequencer.frame s.settings.txCh (s.settings.txDr.setWidth 8) s.settings.txPower s :=
  .ite blind_ready
    (.ite (.of_withJoin fun _ _ => rfl) (Blind.ok (.of_withJoin fun _ _ => rfl)) (.of_withJoin fun _ _ => rfl))
    (blind_const _)

/-! ### The join -/

theorem blind_startJoin : BlindOp startJoin :=
  ((blind_radioSetMode .standby).comp blind_prepareJoin).bind
    (blind_transmitFrame.bind (Blind.ok (.of_withJoin fun _ _ => rfl)))

theorem blind_joinEnd (ok : Bool) : BlindOp (joinEnd ok) :=
  (blind_radioSetMode .standby).bind (Blind.ok (.of_withJoin fun _ _ => rfl))

theorem blind_joinTxDone : BlindOp joinTxDone :=
  (blind_listenRx1.comp (g := fun s =>
    { s with status.radioMode := .standby, sequencer.elapsed := 0#32, sequencer.tEnd := Config.joinTimeoutMs })
    (.of_withJoin fun _ _ => rfl)).bind (Blind.ok (.of_withJoin fun _ _ => rfl))

theorem blind_joinTimeout : BlindOp joinTimeout := (blind_joinEnd false).comp (.of_withJoin fun _ _ => rfl)

theorem blind_joinFrame (f : List Byte) : BlindOp (joinFrame f) := by
  refine (blind_radioRead f).bind fun s t h => ?_
  simp only [decodeJoinAccept_of_identity_eq h.identity f]
  cases decodeJoinAccept t f with
  | none => exact congrArg Except.ok h
  | some r => exact (blind_joinEnd true).comp (g := joinCommit r) (.of_withJoin fun _ _ => rfl) h

/-! ### The cycle -/

theorem blind_encodeDataUp (kind : DataKind) : BlindOp (encodeDataUp kind) := .of_withJoin fun s j => by
  cases kind with
  | ack => rfl
  | uplink =>
    simp only [encodeDataUp, State.withJoin, bind, Except.bind]
    cases memRead s.buffers.txBuf 0 s.buffers.txLen.toNat <;> rfl

theorem blind_cycleStart (kind : DataKind) : BlindOp (cycleStart kind) :=
  ((blind_encodeDataUp kind).comp blind_prepareCycle).bind
    ((blind_radioSetMode .standby).bind (blind_transmitFrame.bind (Blind.ok (.of_withJoin fun _ _ => rfl))))

theorem blind_storePayload (d : DataDownInfo) : BlindOp (storePayload d) := by
  have hstored (m : Memory) : BlindUpdate fun s =>
      { { s with buffers.rxBuf := m, buffers.rxLen := BitVec.ofNat 8 d.payload.length }.emitMessage
          d.payload d.confirmed d.fport with status.rxLatch := true } :=
    have hlatch : BlindUpdate fun s => { s with status.rxLatch := true } := .of_withJoin fun _ _ => rfl
    hlatch.comp ((blind_emitMessage d.payload d.confirmed d.fport).comp (.of_withJoin fun _ _ => rfl))
  exact .ite (blind_const _) blind_id.ok (.bindRead (.of_withJoin fun _ _ => rfl) fun m => (hstored m).ok)

theorem blind_resultA (d : DataDownInfo) : BlindOp (resultA d) := (blind_storePayload d).comp (blind_acceptHeader d)

theorem blind_cycleEnd : BlindOp cycleEnd := by
  have hcmd : BlindUpdate fun s => { s with status.cmd := .noCommand } := .of_withJoin fun _ _ => rfl
  have harm : BlindUpdate fun s => { s with session.classCur := .c } := .of_withJoin fun _ _ => rfl
  have hanswer : BlindUpdate fun s => { s with sequencer.seq := .idle }.respond [0x00#8] := .of_withJoin fun _ _ => rfl
  intro s t h
  have hst : s.settings.classReq = t.settings.classReq := by rw [h.settings]
  cases ht : t.settings.classReq with
  | a =>
    simp only [cycleEnd, hst.trans ht, ht]
    exact ((blind_radioSetMode .standby).comp hcmd).bind hanswer.ok h
  | c =>
    simp only [cycleEnd, hst.trans ht, ht]
    exact ((blind_radioSetMode rx2Listen).comp hcmd).bind (harm.ok.bind hanswer.ok) h

theorem blind_cycleFrame (f : List Byte) : BlindOp (cycleFrame f) := by
  refine (blind_radioRead f).bind fun s t h => ?_
  simp only [decodeDataDown_of_session_eq h.session f]
  cases decodeDataDown t f with
  | none => exact congrArg Except.ok h
  | some d => exact (blind_resultA d).bind blind_cycleEnd h

theorem blind_openRx1 : BlindOp openRx1 :=
  (blind_listenRx1.comp (g := fun s => { s with sequencer.tEnd := rx1Close s }) (.of_withJoin fun _ _ => rfl)).bind
    (Blind.ok (.of_withJoin fun _ _ => rfl))

theorem blind_closeRx1 : BlindOp closeRx1 :=
  (blind_radioSetMode .standby).bind (Blind.ok (.of_withJoin fun _ _ => rfl))

theorem blind_openRx2 : BlindOp openRx2 :=
  ((blind_radioSetMode rx2Listen).comp (g := fun s => { s with sequencer.tEnd := rx2Close s })
    (.of_withJoin fun _ _ => rfl)).bind (Blind.ok (.of_withJoin fun _ _ => rfl))

/-! ### The tick -/

theorem blind_disarmTick : BlindOp disarmTick := by
  intro s t h
  simp only [disarmTick, h.session]
  cases t.session.classCur with
  | a => exact congrArg Except.ok h
  | c => exact (blind_radioSetMode .standby).bind (Blind.ok (.of_withJoin fun _ _ => rfl)) h

theorem blind_armClassC : BlindOp armClassC := by
  intro s t h
  simp only [armClassC, h.session]
  cases t.session.classCur with
  | a => exact (blind_radioSetMode rx2Listen).bind (Blind.ok (.of_withJoin fun _ _ => rfl)) h
  | c => exact congrArg Except.ok h

theorem blind_dispatchPayload (d : DataDownInfo) : BlindOp (dispatchPayload d) := by
  have hstored (m : Memory) : BlindUpdate fun s =>
      { s with buffers.rxBuf := m }.emitMessage d.payload d.confirmed d.fport :=
    (blind_emitMessage d.payload d.confirmed d.fport).comp (.of_withJoin fun _ _ => rfl)
  exact .ite (blind_const _) blind_id.ok (.bindRead (.of_withJoin fun _ _ => rfl) fun m => (hstored m).ok)

theorem blind_resultC (r : Option DataDownInfo) : BlindOp (resultC r) := by
  have hclear : BlindOp fun s => .ok { s with buffers.rxLen := 0#8, status.rxLatch := false } :=
    Blind.ok (.of_withJoin fun _ _ => rfl)
  cases r with
  | none => exact blind_id.ok.bind hclear
  | some d => exact ((blind_dispatchPayload d).comp (blind_acceptHeader d)).bind hclear

theorem blind_pollClassC : BlindOp pollClassC := by
  refine .bindRead (f := radioAvailable) (.ite blind_ready (.of_withJoin fun _ _ => rfl) (blind_const _)) fun _ => ?_
  intro s t h
  simp only [h.rxSlot]
  cases t.radio.rxSlot with
  | none => exact congrArg Except.ok h
  | some f =>
    refine (blind_radioRead f).bind (fun s t h => ?_) h
    simp only [decodeDataDown_of_session_eq h.session f]
    exact blind_resultC _ h

theorem blind_classTick : BlindOp classTick := by
  have hanswer : BlindOp fun s => .ok (s.respond [0x00#8]) := Blind.ok (.of_withJoin fun _ _ => rfl)
  intro s t h
  simp only [classTick, h.settings]
  cases t.settings.classReq with
  | a => exact blind_disarmTick.bind hanswer h
  | c => exact blind_armClassC.bind (blind_pollClassC.bind hanswer) h

/-! ### The commands -/

theorem blind_updateStep : BlindOp updateStep := by
  intro s t h
  simp only [updateStep, h.cmd]
  cases t.status.cmd with
  | uplink => exact blind_cycleStart .uplink h
  | ack => exact blind_cycleStart .ack h
  | noCommand | join => exact blind_classTick h

theorem blind_queueUplink (confirm port : Byte) (p : List Byte) : BlindOp (queueUplink confirm port p) :=
  .bindRead (.of_withJoin fun _ _ => rfl) fun _ => Blind.ok (.of_withJoin fun _ _ => rfl)

theorem blind_execInit (seed : U32) : BlindStep (execInit seed) := .of_withJoin fun s j => by
  simp only [execInit, radioInit, State.withJoin]
  cases Config.radioInitAnswer s.schedule.draws <;> rfl

theorem blind_execReadData : BlindStep execReadData :=
  Blind.conclude (.ite (.of_withJoin fun _ _ => rfl)
    (.bindRead (.of_withJoin fun _ _ => rfl) fun _ => Blind.ok (.of_withJoin fun _ _ => rfl))
    (Blind.ok (.of_withJoin fun _ _ => rfl))) opReadData

theorem blind_execGetRssi : BlindStep execGetRssi :=
  Blind.conclude (.of_withJoin fun s j => by
    have hj : (s.withJoin j).status.radioReady = s.status.radioReady := rfl
    cases hr : s.status.radioReady with
    | false => simp only [radioRssi, hj, hr, ↓reduceIte, Bool.false_eq_true]
    | true =>
      simp only [radioRssi, hj, hr, ↓reduceIte]
      rfl) opGetRssi

theorem blind_selectDatarate (d : Byte) : BlindUpdate (selectDatarate d) :=
  .ite (blind_const _) (.of_withJoin fun _ _ => rfl) blind_id

theorem blind_selectChannel (c : Byte) : BlindUpdate (selectChannel c) :=
  .ite (blind_const _) (.of_withJoin fun _ _ => rfl) (.ite (blind_const _) (.of_withJoin fun _ _ => rfl) blind_id)

theorem blind_selectClass (c : Byte) : BlindUpdate (selectClass c) :=
  .ite (blind_const _) (.of_withJoin fun _ _ => rfl) (.ite (blind_const _) (.of_withJoin fun _ _ => rfl) blind_id)

theorem blind_respond (b : List Byte) : BlindUpdate (State.respond b) := .of_withJoin fun _ _ => rfl

theorem blind_receiveFrame (f : List Byte) : BlindStep (receiveFrame f) := by
  intro s t h
  simp only [receiveFrame, h.sequencer]
  cases t.sequencer.seq with
  | joinWait => exact (blind_joinFrame f).conclude opJoin h
  | cycRx1 | cycRx2 => exact (blind_cycleFrame f).conclude opUpdate h
  | idle | joinTx | cycTx | cycWaitRx1 | cycWaitRx2 => exact blind_id.next h

theorem blind_exec (i : Instr) : BlindStep (exec i) := by
  cases i with
  | setDatarate d => exact ((blind_respond [0x00#8]).comp (blind_selectDatarate d)).next
  | setChannel c => exact ((blind_respond [0x00#8]).comp (blind_selectChannel c)).next
  | setDeviceClass c => exact ((blind_respond [0x00#8]).comp (blind_selectClass c)).next
  | init seed => exact blind_execInit seed
  | join => exact blind_startJoin.conclude opJoin
  | sleep => exact ((blind_radioSetMode .sleep).bind (Blind.ok (.of_withJoin fun _ _ => rfl))).conclude opSleep
  | wakeup => exact ((blind_radioSetMode .standby).bind (Blind.ok (.of_withJoin fun _ _ => rfl))).conclude opWakeup
  | sendUplink confirm port p =>
    exact Blind.conclude (.ite (blind_const _) (blind_respond _).ok (blind_queueUplink confirm port p)) opSendUplink
  | readData => exact blind_execReadData
  | getRssi => exact blind_execGetRssi
  | update => exact blind_updateStep.conclude opUpdate
  | joinRequest | joinAccept | unconfirmedDataUp | unconfirmedDataDown | confirmedDataUp | confirmedDataDown
  | rfuMtype | proprietary => exact blind_receiveFrame _
  | _ => exact Blind.next (.of_withJoin fun _ _ => rfl)

/-! ### The step -/

theorem blind_phaseStep : BlindStep phaseStep := by
  intro s t h
  have pending : Blind id fun s => s.radio.txPending = true := .of_withJoin fun _ _ => rfl
  have deadline : Blind id fun s => s.sequencer.tEnd ≤ s.sequencer.elapsed := .of_withJoin fun _ _ => rfl
  have rx1Opens : Blind id fun s => s.settings.rx1Delay ≤ s.sequencer.elapsed := .of_withJoin fun _ _ => rfl
  have rx2Opens : Blind id fun s => s.settings.rx2Delay ≤ s.sequencer.elapsed := .of_withJoin fun _ _ => rfl
  have hseq : s.sequencer.seq = t.sequencer.seq := by rw [h.sequencer]
  cases ht : t.sequencer.seq <;> simp only [phaseStep, hseq.trans ht, ht]
  case idle => exact blind_id.next h
  case joinTx => exact Blind.ite pending blind_id.next (blind_joinTxDone.conclude opJoin) h
  case joinWait => exact Blind.ite deadline (blind_joinTimeout.conclude opJoin) blind_id.next h
  case cycTx => exact Blind.ite pending blind_id.next (Blind.next (.of_withJoin fun _ _ => rfl)) h
  case cycWaitRx1 => exact Blind.ite rx1Opens (blind_openRx1.conclude opUpdate) blind_id.next h
  case cycRx1 => exact Blind.ite deadline (blind_closeRx1.conclude opUpdate) blind_id.next h
  case cycWaitRx2 => exact Blind.ite rx2Opens (blind_openRx2.conclude opUpdate) blind_id.next h
  case cycRx2 => exact Blind.ite deadline (blind_cycleEnd.conclude opUpdate) blind_id.next h

theorem blind_ctrlStep : BlindStep ctrlStep := by
  intro s t h
  have hf : fetch s = fetch t := Blind.of_withJoin (view := id) (f := fetch) (fun _ _ => rfl) h
  simp only [ctrlStep, hf]
  cases fetch t with
  | record rec =>
    dsimp only
    cases decodeRecord rec with
    | ok i => exact blind_exec i h
    | error r => exact (blind_respond [rejectStatus r]).next h
  | frame f =>
    dsimp only
    cases decodeFrame f with
    | ok i => exact blind_exec i h
    | error r => exact blind_receiveFrame f h
  | phase => exact blind_phaseStep h

theorem blind_takeMove : BlindUpdate State.takeMove := .of_withJoin fun _ _ => rfl

theorem blind_hostOffer (rec : List Byte) : BlindUpdate (hostOffer rec) :=
  .ite (.of_withJoin fun _ _ => rfl) (.of_withJoin fun _ _ => rfl) blind_id

theorem blind_radioTxDone : BlindUpdate radioTxDone :=
  .ite (.of_withJoin fun _ _ => rfl) (.of_withJoin fun _ _ => rfl) blind_id

theorem blind_radioDeliver (f : List Byte) : BlindUpdate (radioDeliver f) :=
  .ite (.of_withJoin fun _ _ => rfl) (.of_withJoin fun _ _ => rfl) blind_id

theorem blind_clockTick : BlindUpdate clockTick :=
  .ite (.of_withJoin fun _ _ => rfl) (.of_withJoin fun _ _ => rfl) blind_id

/-- A step is the quiescent fault, or the move of the next agent, in both states alike. -/
theorem blind_step : BlindStep step := by
  intro s t h
  have hfaults : s.faults = t.faults := Blind.of_withJoin (view := id) (f := State.faults) (fun _ _ => rfl) h
  have hmove : s.nextMove = t.nextMove := Blind.of_withJoin (view := id) (f := State.nextMove) (fun _ _ => rfl) h
  simp only [step, hfaults, hmove]
  cases t.faults with
  | cons r rs => rfl
  | nil =>
    cases t.nextMove with
    | host rec => exact ((blind_hostOffer rec).comp blind_takeMove).next h
    | txDone => exact (blind_radioTxDone.comp blind_takeMove).next h
    | deliver f => exact ((blind_radioDeliver f).comp blind_takeMove).next h
    | tick => exact (blind_clockTick.comp blind_takeMove).next h
    | ctrl => exact blind_ctrlStep.comp blind_takeMove h

/-- Settles O53: the step is put together from operations that do not look at JOIN_STATE. -/
theorem joinStateGatesNothing : Obligations.JoinStateGatesNothing := by
  intro s j
  have h : forgetJoinNext (step { s with status.joinState := j }) = forgetJoinNext (step s) :=
    blind_step (s.withJoin_sameButJoin j)
  generalize step { s with status.joinState := j } = y at h ⊢
  generalize step s = x at h ⊢
  cases x with
  | next t =>
    cases y with
    | next t' => exact (Host.Outcome.next.inj h).symm
    | fault | refused => cases h
  | fault r =>
    cases y with
    | fault r' => exact (Host.Outcome.fault.inj h).symm
    | next | refused => cases h
  | refused r =>
    cases y with
    | refused r' => exact (Host.Outcome.refused.inj h).symm
    | next | fault => cases h

end Sys2Proof.Machine
end

section
/-! The agents' moves and commands, step by step (O13, O7, O19), and the reset table (O59). -/

namespace Sys2Proof.Machine

/-! ### CLOCK and RADIO (R72, R530, R531) -/

theorem Phase.timed_iff (q : Phase) :
    q.timed = true ↔ q ∈ [Phase.joinWait, .cycWaitRx1, .cycRx1, .cycWaitRx2, .cycRx2] := by
  cases q <;> decide

theorem Phase.not_timed_of_mem {q : Phase} (h : q ∈ [Phase.idle, .joinTx, .cycTx]) : q.timed = false := by
  revert q
  decide

theorem RadioMode.isRxcont_iff (m : RadioMode) : m.isRxcont = true ↔ ∃ ch dr, m = .rxcont ch dr := by
  cases m <;> simp [RadioMode.isRxcont]

/-- The saturating sum as a word. -/
theorem sat32_eq_ofNat (a b : U32) : sat32 a b = BitVec.ofNat 32 (min (a.toNat + b.toNat) (2 ^ 32 - 1)) := by
  rw [← toNat_sat32, BitVec.ofNat_toNat, BitVec.setWidth_eq]

theorem clockTick_eq_of_timed {s : State} (h : s.sequencer.seq.timed = true) : clockTick s =
    { s with sequencer.elapsed := BitVec.ofNat 32 (min (s.sequencer.elapsed.toNat + 1) (2 ^ 32 - 1)) } := by
  rw [clockTick, if_pos h, sat32_eq_ofNat]
  rfl

theorem clockTick_eq_self {s : State} (h : s.sequencer.seq.timed = false) : clockTick s = s := by
  simp [clockTick, h]

theorem radioDeliver_eq {f : List Byte} {s : State} (hm : ∃ ch dr, s.status.radioMode = .rxcont ch dr)
    (hpos : 1 ≤ f.length) (hle : f.length ≤ 255) : radioDeliver f s = { s with radio.rxSlot := some f } :=
  if_pos ⟨(RadioMode.isRxcont_iff _).2 hm, hpos, hle⟩

theorem radioDeliver_eq_self {f : List Byte} {s : State}
    (h : (∀ ch dr, s.status.radioMode ≠ .rxcont ch dr) ∨ f.length = 0 ∨ 255 < f.length) : radioDeliver f s = s := by
  refine if_neg ?_
  rintro ⟨hm, hpos, hle⟩
  rw [RadioMode.isRxcont_iff] at hm
  obtain ⟨ch, dr, hm⟩ := hm
  rw [Config.maxPhy] at hle
  rcases h with h | h
  · exact h ch dr hm
  · omega

theorem radioTxDone_eq {s : State} (h : s.radio.txPending = true) :
    radioTxDone s = { s with radio.txPending := false } := if_pos h

theorem radioTxDone_eq_self {s : State} (h : s.radio.txPending = false) : radioTxDone s = s := by
  simp [radioTxDone, h]

/-- Settles O13: each move is the agent's step where it has one, and passed over elsewhere. -/
theorem clockAndRadioMoveWhereEnabled : Obligations.ClockAndRadioMoveWhereEnabled := by
  intro s hf
  refine ⟨fun hm => ⟨fun hq => ?_, fun hq => ?_⟩, fun f hm => ⟨fun hr hpos hle => ?_, fun hn => ?_⟩,
    fun hm => ⟨fun hp => ?_, fun hp => ?_⟩⟩
  · exact (step_of_tick hf hm).trans
      (congrArg Host.Outcome.next (clockTick_eq_of_timed (s := s.takeMove) ((Phase.timed_iff _).2 hq)))
  · exact (step_of_tick hf hm).trans
      (congrArg Host.Outcome.next (clockTick_eq_self (s := s.takeMove) (Phase.not_timed_of_mem hq)))
  · exact (step_of_deliver hf hm).trans
      (congrArg Host.Outcome.next (radioDeliver_eq (s := s.takeMove) hr hpos hle))
  · exact (step_of_deliver hf hm).trans
      (congrArg Host.Outcome.next (radioDeliver_eq_self (s := s.takeMove) hn))
  · exact (step_of_txDone hf hm).trans (congrArg Host.Outcome.next (radioTxDone_eq (s := s.takeMove) hp))
  · exact (step_of_txDone hf hm).trans (congrArg Host.Outcome.next (radioTxDone_eq_self (s := s.takeMove) hp))

/-! ### A command's step (R70, R114, R133) -/

theorem fetch_of_idle {s : State} {rec : List Byte} (hq : s.sequencer.seq = .idle) (hp : s.port = some rec) :
    fetch s = .record rec := by
  simp [fetch, hq, hp]

/-- Settles O7: in IDLE the outstanding record is what CTRL fetches. -/
theorem stepRunsDecodedCommand : Obligations.StepRunsDecodedCommand := by
  rintro s rec i ⟨⟨hf, hm⟩, hq, hp⟩ hd
  have hfetch : fetch s.takeMove = .record rec := fetch_of_idle hq hp
  rw [step_of_ctrl hf hm]
  simp only [ctrlStep, hfetch, hd]

/-! ### SET_DATARATE (R81, R375, R376) -/

/-- Settles O19: the region's maximum is R81's. -/
theorem setDatarateWithinRegion : Obligations.SetDatarateWithinRegion := by
  intro d s
  constructor
  · intro hd
    have hsel : selectDatarate d s = s.setTxDr (d.setWidth 3) := if_pos hd
    have hexec : exec (.setDatarate d) s = .next ((selectDatarate d s).respond [0x00#8]) := rfl
    rw [hexec, hsel]
    rfl
  · intro hd
    have hsel : selectDatarate d s = s := if_neg (Nat.not_le.2 hd)
    have hexec : exec (.setDatarate d) s = .next ((selectDatarate d s).respond [0x00#8]) := rfl
    rw [hexec, hsel]
    rfl

/-! ### The reset table (R95, R600, R601) -/

@[simp] theorem toList_zeros (n : Nat) : (zeros n).toList = List.replicate n 0#8 := by
  simp [zeros]

/-- R80: the default channel fits the three bits of TX_CH. -/
theorem reset_txCh_toNat : State.reset.settings.txCh.toNat = Config.defaultCh.val := by
  have hlt := Config.defaultCh.isLt
  have hcount : Config.chCountPred ≤ 7 := by
    unfold Config.chCountPred
    split <;> decide
  exact Nat.mod_eq_of_lt (by omega)

/-- R80, R81: so does the default data rate in TX_DR. -/
theorem reset_txDr_toNat : State.reset.settings.txDr.toNat = Config.defaultDr.val := by
  have hle := Config.defaultDr_le_maxDr
  have hmax : Config.maxDr ≤ 6 := by
    unfold Config.maxDr
    split <;> decide
  exact Nat.mod_eq_of_lt (by omega)

/-- R11: the reset delay is at most RX2_DELAY_RST, a word. -/
theorem reset_rx1Delay_toNat : State.reset.settings.rx1Delay.toNat = Config.rx1DelayRstVal.val := by
  have hlt := Config.rx1DelayRstVal.isLt
  have hword := Config.rx2DelayRst.isLt
  exact Nat.mod_eq_of_lt (by omega)

theorem reset_rx1Window_toNat : State.reset.settings.rx1Window.toNat = Config.rx1WindowRstVal.val := by
  have hlt := Config.rx1WindowRstVal.isLt
  have hword := Config.rx2DelayRst.isLt
  exact Nat.mod_eq_of_lt (by omega)

/-- Settles O59: the fixed values by the table, the OPEN parameters by the bounds in their types. -/
theorem resetValues : Obligations.ResetValues :=
  ⟨⟨toList_zeros 8, toList_zeros 8, toList_zeros 16⟩, ⟨toList_zeros 2, toList_zeros 3, toList_zeros 3⟩,
    ⟨toList_zeros 4, toList_zeros 16, toList_zeros 16, rfl, rfl, rfl⟩,
    ⟨reset_txCh_toNat, rfl, reset_txDr_toNat, rfl, rfl, rfl, rfl, rfl, rfl, reset_rx1Window_toNat, rfl,
      reset_rx1Delay_toNat, rfl⟩,
    ⟨fun _ => rfl, rfl, fun _ => rfl, rfl, rfl⟩, ⟨rfl, rfl, rfl, rfl, rfl, rfl, rfl, rfl, rfl⟩,
    ⟨rfl, rfl, rfl, rfl, rfl⟩, ⟨rfl, rfl, rfl, rfl⟩⟩

end Sys2Proof.Machine
end

section
/-! The command port (O12) and the commit of a session (O38). -/

namespace Sys2Proof.Machine

/-! ### HOST and the command port (R114) -/

theorem hostOffer_eq {rec : List Byte} {s : State} (hq : s.sequencer.seq = .idle) (hp : s.port = none) :
    hostOffer rec s = { s with port := some rec } := if_pos ⟨hq, hp⟩

theorem hostOffer_eq_self {rec : List Byte} {s : State} (h : s.sequencer.seq ≠ .idle ∨ s.port ≠ none) :
    hostOffer rec s = s := if_neg fun ⟨hq, hp⟩ => h.elim (· hq) (· hp)

/-- Settles O12: the offer looks at the phase and the port, which taking the move leaves as they are. -/
theorem hostIsHeldUntilIdle : Obligations.HostIsHeldUntilIdle := by
  intro s rec hf hm
  refine ⟨fun ⟨hq, hp⟩ => ?_, fun hheld => ?_⟩
  · exact (step_of_host hf hm).trans (congrArg Host.Outcome.next (hostOffer_eq (s := s.takeMove) hq hp))
  · exact (step_of_host hf hm).trans (congrArg Host.Outcome.next (hostOffer_eq_self (s := s.takeMove) hheld))

/-! ### What a join commits (R109, R276) -/

/-- What JOIN_COMMIT writes as a whole is kept: the join material, DEVADDR and both session keys. The counters are not
among it, since a data uplink advances them too. -/
structure KeepsKeys (s t : State) : Prop where
  joinMat : t.joinMat = s.joinMat
  devAddr : t.session.devAddr = s.session.devAddr
  nwkSKey : t.session.nwkSKey = s.session.nwkSKey
  appSKey : t.session.appSKey = s.session.appSKey

/-- The session is the one of the join-accept `r`, whole: its fields, the keys derived from it (R236), and the counters
at zero. -/
structure CommitsJoin (r : JoinAcceptInfo) (s t : State) : Prop where
  joinMat : t.joinMat = { s.joinMat with appNonce := r.appNonce, netId := r.netId }
  devAddr : t.session.devAddr = r.devAddr
  nwkSKey : t.session.nwkSKey =
    Config.deriveKey s.identity.appKey 0x01#8 r.appNonce r.netId s.joinMat.devNonce
  appSKey : t.session.appSKey =
    Config.deriveKey s.identity.appKey 0x02#8 r.appNonce r.netId s.joinMat.devNonce
  fcntTx : t.session.fcntTx = 0#16
  fcntRx : t.session.fcntRx = 0#16
  joinState : t.status.joinState = .joinAccepted

theorem KeepsKeys.trans {s t u : State} (h : KeepsKeys s t) (h' : KeepsKeys t u) : KeepsKeys s u where
  joinMat := h'.joinMat.trans h.joinMat
  devAddr := h'.devAddr.trans h.devAddr
  nwkSKey := h'.nwkSKey.trans h.nwkSKey
  appSKey := h'.appSKey.trans h.appSKey

theorem State.readSlot_keepsKeys (f : List Byte) (s : State) : KeepsKeys s (s.readSlot f) := ⟨rfl, rfl, rfl, rfl⟩

theorem MoveEffect.keepsKeys {s t : State} (h : MoveEffect s t) : KeepsKeys s t := by
  cases h <;> exact ⟨rfl, rfl, rfl, rfl⟩

/-- An accepted downlink writes FCNT_RX and nothing else of the session (R310). -/
theorem ResultEffect.keepsKeys {d : DataDownInfo} {s t : State} (h : ResultEffect d s t) : KeepsKeys s t := by
  cases h <;> constructor <;> simp

theorem CycleEnded.keepsKeys {s t : State} (h : CycleEnded s t) : KeepsKeys s t := by
  cases h <;> exact ⟨rfl, rfl, rfl, rfl⟩

theorem FrameEffect.keepsKeys {f : List Byte} {s t : State} (h : FrameEffect f s t) (hq : s.sequencer.seq ≠ .joinWait) :
    KeepsKeys s t := by
  cases h with
  | noMessage => exact State.readSlot_keepsKeys f s
  | joined r hj => exact absurd hj hq
  | received d u t _ hu ht => exact ((State.readSlot_keepsKeys f s).trans hu.keepsKeys).trans ht.keepsKeys

/-- No phase's own step writes them, the timeout of the join wait among them (R275). -/
theorem PhaseEffect.keepsKeys {s t : State} (h : PhaseEffect s t) : KeepsKeys s t := by
  cases h with
  | cycleEnd t _ ht => exact ht.keepsKeys
  | joinTxDone | joinTimeout | cycleTxDone | openRx1 | closeRx1 | openRx2 => exact ⟨rfl, rfl, rfl, rfl⟩

/-- A frame taken in the join wait commits the join-accept it decodes to, or it is no message (R235, R276). -/
theorem joinFrame_keepsKeys_or_commits {f : List Byte} {s t : State} (h : joinFrame f s = .ok t) :
    KeepsKeys s t ∨ ∃ r, decodeJoinAccept s f = some r ∧ CommitsJoin r s t := by
  obtain ⟨-, ⟨-, rfl⟩ | ⟨r, hd, hend⟩⟩ := joinFrame_eq_ok.1 h
  · exact .inl (State.readSlot_keepsKeys f s)
  · obtain ⟨-, rfl⟩ := joinEnd_eq_ok.1 hend
    exact .inr ⟨r, hd, rfl, rfl, rfl, rfl, rfl, rfl, rfl⟩

/-! ### CTRL's frame step -/

theorem fetch_of_joinWait {s : State} {f : List Byte} (hq : s.sequencer.seq = .joinWait)
    (hf : s.radio.rxSlot = some f) : fetch s = .frame f := by
  simp [fetch, hq, hf]

/-- A frame that CTRL takes is received whether or not it decodes. -/
theorem ctrlStep_of_frame {s : State} {f : List Byte} (h : fetch s = .frame f) : ctrlStep s = receiveFrame f s := by
  cases hd : decodeFrame f with
  | ok i => simpa only [ctrlStep, h, hd] using exec_of_decodeFrame hd s
  | error r => simp only [ctrlStep, h, hd]

/-- Outside IDLE CTRL keeps them, or it took a join-accept in the join wait and commits it. -/
theorem ctrlStep_keepsKeys_or_commits {s t : State} (h : ctrlStep s = .next t) (hq : s.sequencer.seq ≠ .idle) :
    KeepsKeys s t ∨ ∃ f r, s.sequencer.seq = .joinWait ∧ s.radio.rxSlot = some f ∧ decodeJoinAccept s f = some r ∧
      CommitsJoin r s t := by
  cases ctrlStep_effect h with
  | waits | faulted | rejected => exact .inl ⟨rfl, rfl, rfl, rfl⟩
  | command rec i t hidle => exact absurd hidle hq
  | phase t _ he => exact .inl he.keepsKeys
  | frame f t _ hf he =>
    by_cases hj : s.sequencer.seq = .joinWait
    · rw [ctrlStep_of_frame (fetch_of_joinWait hj hf), receiveFrame_of_joinWait f hj] at h
      rcases conclude_eq_next.1 h with ho | ⟨k, -, rfl⟩
      · rcases joinFrame_keepsKeys_or_commits ho with hk | ⟨r, hd, hc⟩
        · exact .inl hk
        · exact .inr ⟨f, r, hj, hf, hd, hc⟩
      · exact .inl ⟨rfl, rfl, rfl, rfl⟩
    · exact .inl (he.keepsKeys hj)

/-- Settles O38: of the steps outside IDLE only CTRL's frame step of the join wait writes a key or the address, and it
does so in one commit. -/
theorem sessionCommitIsAllOrNothing : Obligations.SessionCommitIsAllOrNothing := by
  intro s t h hq
  have hstep : KeepsKeys s.takeMove t ∨ ∃ f r, s.sequencer.seq = .joinWait ∧ s.radio.rxSlot = some f ∧
      decodeJoinAccept s.takeMove f = some r ∧ CommitsJoin r s.takeMove t := by
    rcases step_effect h with hm | ⟨⟨hf, hm⟩, -⟩
    · exact .inl hm.keepsKeys
    · rw [step_of_ctrl hf hm] at h
      exact ctrlStep_keepsKeys_or_commits h hq
  rcases hstep with ⟨hmat, haddr, hnwk, happ⟩ | ⟨f, r, hj, hf, hd, hmat, haddr, hnwk, happ, htx, hrx, hjoin⟩
  · exact .inl ⟨hmat, haddr, hnwk, happ⟩
  · rw [decodeJoinAccept_of_identity_eq s.takeMove_identity] at hd
    exact .inr ⟨f, r, hj, hf, hd, hmat, haddr, hnwk, happ, htx, hrx, hjoin⟩

end Sys2Proof.Machine
end

section
/-! The encodings: the decoder and the encoder of the command port (O1, O2, O4, O6), those of the frames (O3, O5), and
the answer to a record that does not decode (O9). -/

namespace Sys2Proof

/-! ### The command port (R131 to R134) -/

/-- Settles O1: each word is a closed term of the decoders. -/
theorem sampleWordsDecode : Obligations.SampleWordsDecode :=
  ⟨rfl, rfl, rfl, rfl, rfl, rfl, rfl, rfl, rfl, rfl, rfl⟩

/-- A payload has the length that its length operand says exactly where that length fits a byte (R300). -/
theorem uplinkOperands_encode_iff (confirm port : Byte) (payload : List Byte) :
    uplinkOperands (BitVec.ofNat 8 payload.length :: confirm :: port :: payload) =
      .ok (.sendUplink confirm port payload) ↔ payload.length ≤ 255 := by
  simp only [uplinkOperands, BitVec.toNat_ofNat]
  split <;> simp <;> omega

/-- The record of a command decodes to the command exactly where its operands have the lengths of R132: the first byte
selects the operand form, which reads the bytes behind it. -/
theorem decodeRecord_encode_iff {i : Instr} (hc : i.isCommand = true) :
    decodeRecord (encode i) = .ok i ↔ i.wellFormed = true := by
  cases i
  case setDeveui | setAppeui | setAppkey | setNwkskey | setAppskey | setDevaddr =>
    exact textOperand_eq_ok.trans (by simp [Instr.wellFormed])
  case setFcntTx v | setFcntRx v => exact iff_of_true (u16Operand_eq_ok.2 ⟨v, rfl, rfl⟩) rfl
  case setRx1Window v | setRx2Window v | setRx1Delay v | setRx2Delay v | init v =>
    exact iff_of_true (u32Operand_eq_ok.2 ⟨v, rfl, rfl⟩) rfl
  case setTxpower | setDatarate | setChannel | setDeviceClass | registerOnMessage => exact iff_of_true rfl rfl
  case getFcntTx | getFcntRx | getChannel | getDatarate | join | sleep | wakeup | sendAck | readData | readAck |
      getRssi | update => exact iff_of_true rfl rfl
  case sendUplink confirm port payload =>
    exact (uplinkOperands_encode_iff confirm port payload).trans (by simp [Instr.wellFormed])
  case joinRequest | joinAccept | unconfirmedDataUp | unconfirmedDataDown | confirmedDataUp | confirmedDataDown |
      rfuMtype | proprietary => cases hc

/-- Settles O2: one direction of the equivalence. -/
theorem commandDecodesFromItsRecord : Obligations.CommandDecodesFromItsRecord :=
  fun _ hc hw => (decodeRecord_encode_iff hc).2 hw

/-- Settles O4: what decodes is a command and its record the encoding of it, so the other direction of the equivalence
says that it is well-formed. -/
theorem decodedRecordIsOneEncoding : Obligations.DecodedRecordIsOneEncoding := by
  intro rec i h
  have henc : encode i = rec := encode_of_decodeRecord h
  have hc : i.isCommand = true := isCommand_of_decodeRecord h
  exact ⟨henc, hc, (decodeRecord_encode_iff hc).1 (henc ▸ h)⟩

/-! ### A known opcode is never answered BAD_OPCODE -/

@[simp] theorem textOperand_ne_badOpcode (n : Nat) (args : List Byte) (k : List Byte → Instr) :
    textOperand n args k ≠ .error .badOpcode := by
  unfold textOperand
  split <;> simp

@[simp] theorem noOperand_ne_badOpcode (args : List Byte) (i : Instr) : noOperand args i ≠ .error .badOpcode := by
  unfold noOperand
  split <;> simp

@[simp] theorem byteOperand_ne_badOpcode (args : List Byte) (k : Byte → Instr) :
    byteOperand args k ≠ .error .badOpcode := by
  unfold byteOperand
  split <;> simp

@[simp] theorem u16Operand_ne_badOpcode (args : List Byte) (k : U16 → Instr) :
    u16Operand args k ≠ .error .badOpcode := by
  unfold u16Operand
  split <;> simp

@[simp] theorem u32Operand_ne_badOpcode (args : List Byte) (k : U32 → Instr) :
    u32Operand args k ≠ .error .badOpcode := by
  unfold u32Operand
  split <;> simp

@[simp] theorem uplinkOperands_ne_badOpcode (args : List Byte) : uplinkOperands args ≠ .error .badOpcode := by
  unfold uplinkOperands
  split
  · split <;> simp
  · simp

/-- Settles O6: each opcode of the table has an operand form, which answers an instruction or BAD_LENGTH; any other
opcode meets the last row of the decoder. -/
theorem reservedOpcodesAreBadOpcode : Obligations.ReservedOpcodesAreBadOpcode := by
  refine ⟨rfl, fun op args => ?_⟩
  simp only [decodeRecord]
  split
  case h_32 => exact iff_of_true rfl (by simp_all)
  all_goals
    rename_i hop
    exact iff_of_false (by simp) (by simp [hop])

/-! ### Frames (R151, R152, R161) -/

/-- Settles O3: MHDR's upper bits select the kind, its lower bits and the body are the operands. -/
theorem frameDecodesFromItsBytes : Obligations.FrameDecodesFromItsBytes := by
  intro i hc hw
  cases i
  case joinRequest low body | joinAccept low body | unconfirmedDataUp low body | unconfirmedDataDown low body |
      confirmedDataUp low body | confirmedDataDown low body | rfuMtype low body | proprietary low body =>
    have hl : body.length ≤ 254 := of_decide_eq_true hw
    simp [encode, decodeFrame, hl]
  all_goals cases hc

/-- Every frame that a radio delivers decodes (R152, R530). -/
theorem exists_decodeFrame_eq_ok {f : List Byte} (hpos : 1 ≤ f.length) (hle : f.length ≤ 255) :
    ∃ i, decodeFrame f = .ok i := by
  cases f with
  | nil => simp at hpos
  | cons mhdr body =>
    have hl : body.length ≤ 254 := Nat.le_of_succ_le_succ hle
    rw [decodeFrame, if_pos hl]
    split <;> exact ⟨_, rfl⟩

/-- Settles O5: the kinds' MTypes are all eight values of three bits, so a frame of these lengths decodes. -/
theorem everyFrameHasOneKind : Obligations.EveryFrameHasOneKind := fun _ hpos hle =>
  (exists_decodeFrame_eq_ok hpos hle).imp fun _ h => ⟨h, encode_of_decodeFrame h⟩

end Sys2Proof

namespace Sys2Proof.Machine

open Sys2Proof.Claims

/-! ### A record that does not decode (R133, R505) -/

theorem rejectStatus_eq (r : Reject) : rejectStatus r = if r = .badOpcode then 0xFF#8 else 0xFE#8 := by
  cases r <;> rfl

/-- Settles O9: in IDLE the outstanding record is what CTRL fetches, and its rejection is the response. -/
theorem rejectedRecordOnlyAnswersStatus : Obligations.RejectedRecordOnlyAnswersStatus := by
  rintro s rec r ⟨⟨hf, hm⟩, hq, hp⟩ hd
  have hfetch : fetch s.takeMove = .record rec := fetch_of_idle hq hp
  rw [step_of_ctrl hf hm, ← rejectStatus_eq]
  simp only [ctrlStep, hfetch, hd]
  rfl

/-! ### Nothing is refused (R510, R514) -/

/-- A frame row takes its own bytes from the radio. -/
theorem exec_eq_receiveFrame_encode {i : Instr} (hc : i.isCommand = false) (s : State) :
    exec i s = receiveFrame (encode i) s := by
  cases i
  case joinRequest | joinAccept | unconfirmedDataUp | unconfirmedDataDown | confirmedDataUp | confirmedDataDown |
      rfuMtype | proprietary => rfl
  all_goals cases hc

theorem receiveFrame_answers (f : List Byte) (s : State) : ∃ t, receiveFrame f s = .next t := by
  unfold receiveFrame
  split <;> exact ⟨_, rfl⟩

theorem exec_answers (i : Instr) (s : State) : ∃ t, exec i s = .next t := by
  cases hc : i.isCommand
  · rw [exec_eq_receiveFrame_encode hc]
    exact receiveFrame_answers _ s
  · cases i
    case joinRequest | joinAccept | unconfirmedDataUp | unconfirmedDataDown | confirmedDataUp | confirmedDataDown |
      rfuMtype | proprietary => cases hc
    all_goals exact ⟨_, rfl⟩

theorem phaseStep_answers (s : State) : ∃ t, phaseStep s = .next t := by
  unfold phaseStep
  split <;> (try split) <;> exact ⟨_, rfl⟩

theorem ctrlStep_answers (s : State) : ∃ t, ctrlStep s = .next t := by
  cases hf : fetch s with
  | record rec =>
    cases hd : decodeRecord rec with
    | ok i => simpa only [ctrlStep, hf, hd] using exec_answers i s
    | error r => exact ⟨s.respond [rejectStatus r], by simp only [ctrlStep, hf, hd, rejectRecord]⟩
  | frame f => simpa only [ctrlStep_of_frame hf] using receiveFrame_answers f s
  | phase => simpa only [ctrlStep_of_phase hf] using phaseStep_answers s

/-- Settles O11: a step is the move of its agent, and each answers a next state. -/
theorem everyFaultFreeStepCompletes : Obligations.EveryFaultFreeStepCompletes := by
  refine ⟨exec_answers, fun s hf => ?_⟩
  cases hm : s.nextMove with
  | host rec => exact ⟨_, step_of_host hf hm⟩
  | txDone => exact ⟨_, step_of_txDone hf hm⟩
  | deliver f => exact ⟨_, step_of_deliver hf hm⟩
  | tick => exact ⟨_, step_of_tick hf hm⟩
  | ctrl => simpa only [step_of_ctrl hf hm] using ctrlStep_answers s.takeMove

end Sys2Proof.Machine
end

section
/-! The data downlink's decoder (O43, O44): which frames it accepts and what it returns, each said once over the fields
of the frame. -/

namespace Sys2Proof.Machine

/-! ### Slices of a frame (00_scope.md R13) -/

theorem toList_bytesAt {l : List Byte} {i n : Nat} (h : i + n ≤ l.length) :
    (bytesAt l i n).toList = (l.drop i).take n := by
  refine List.ext_getElem (by simp; omega) fun k hk _ => ?_
  have hlt : i + k < l.length := by
    rw [Vector.length_toList] at hk
    omega
  simp [bytesAt, hlt]

/-- The address in display order is the frame's four bytes reversed (20_memory.md R104). -/
theorem toList_addrAt {l : List Byte} {i : Nat} (h : i + 4 ≤ l.length) :
    (addrAt l i).toList = ((l.drop i).take 4).reverse := by
  refine List.ext_getElem (by simp; omega) fun k hk _ => ?_
  rw [Vector.length_toList] at hk
  have hlen : min 4 (l.length - i) = 4 := by omega
  have hidx : i + (4 - 1 - k) = i + 3 - k := by omega
  have hlt : i + 3 - k < l.length := by omega
  simp [addrAt, List.getElem_reverse, hlen, hidx, hlt]

theorem slice_to_end (l : List Byte) (i : Nat) : slice l i l.length = l.drop i :=
  List.take_of_length_le (by simp)

theorem foptsLen_eq (fctrl : Byte) : foptsLen fctrl = (fctrl &&& 0x0F#8).toNat := by
  revert fctrl
  decide

/-! ### The fields of a data downlink (R156 to R159) -/

/-- Where FHDR ends: behind MHDR, DevAddr, FCtrl, FCnt and the FOpts. -/
def downHeader (f : List Byte) : Nat := 8 + foptsLen (f.getD 5 0#8)

/-- FCnt, little-endian behind FCtrl (R156). -/
def downFcnt (f : List Byte) : U16 := ofLe16 (f.getD 6 0#8) (f.getD 7 0#8)

/-- FPort, zero where no byte stands between FHDR and MIC. -/
def downPort (f : List Byte) : Byte := if downHeader f < f.length - 4 then f.getD (downHeader f) 0#8 else 0#8

/-- The decrypted bytes between FPort and MIC. -/
def downPayload (s : State) (f : List Byte) : List Byte :=
  if downHeader f < f.length - 4 then
    cryptList (payloadKey s (downPort f)) 1#1 s.session.devAddr (downFcnt f) (slice f (downHeader f + 1) (f.length - 4))
  else []

/-- What DECODE_DATA_DOWN returns of a frame it accepts. -/
def downInfo (s : State) (f : List Byte) : DataDownInfo :=
  { mhdr := f.getD 0 0#8, confirmed := mtypeOf (f.getD 0 0#8) = 5#3, fctrl := f.getD 5 0#8, fcnt := downFcnt f
    fport := downPort f, fportPresent := downHeader f < f.length - 4, payload := downPayload s f }

/-- The checks of DECODE_DATA_DOWN (R237). -/
structure AcceptsDown (s : State) (f : List Byte) : Prop where
  length : 12 ≤ f.length
  mtype : mtypeOf (f.getD 0 0#8) = 3#3 ∨ mtypeOf (f.getD 0 0#8) = 5#3
  addr : addrAt f 1 = s.session.devAddr
  header : downHeader f + 4 ≤ f.length
  mic : f.drop (f.length - 4) = micDataList s 1#1 (downFcnt f) (f.take (f.length - 4))
  fits : (downPayload s f).length ≤ Config.bufCap

/-- DECODE_DATA_DOWN accepts exactly the frames that pass its checks, and returns their fields (R237). -/
theorem decodeDataDown_eq_some {s : State} {f : List Byte} {r : DataDownInfo} :
    decodeDataDown s f = some r ↔ AcceptsDown s f ∧ downInfo s f = r := by
  have hdef : decodeDataDown s f =
      if f.length < 12 then none
      else if mtypeOf (f.getD 0 0#8) ≠ 3#3 ∧ mtypeOf (f.getD 0 0#8) ≠ 5#3 then none
      else if addrAt f 1 ≠ s.session.devAddr then none
      else if f.length < downHeader f + 4 then none
      else if slice f (f.length - 4) f.length ≠ micDataList s 1#1 (downFcnt f) (f.take (f.length - 4)) then none
      else if Config.bufCap < (downPayload s f).length then none
      else some (downInfo s f) := rfl
  rw [hdef, slice_to_end]
  constructor
  · intro h
    split_ifs at h with hn hm ha hh hmic hfit
    exact ⟨⟨by omega, by tauto, not_not.1 ha, by omega, not_not.1 hmic, by omega⟩, Option.some.inj h⟩
  · rintro ⟨⟨hn, hm, ha, hh, hmic, hfit⟩, rfl⟩
    have hm' : ¬(mtypeOf (f.getD 0 0#8) ≠ 3#3 ∧ mtypeOf (f.getD 0 0#8) ≠ 5#3) := by tauto
    rw [if_neg (by omega), if_neg hm', if_neg (not_not.2 ha), if_neg (by omega), if_neg (not_not.2 hmic),
      if_neg (by omega)]

/-- A frame of another kind is not accepted (R152). -/
theorem decodeDataDown_eq_none_of_mtype {s : State} {f : List Byte} (h3 : mtypeOf (f.getD 0 0#8) ≠ 3#3)
    (h5 : mtypeOf (f.getD 0 0#8) ≠ 5#3) : decodeDataDown s f = none := by
  refine Option.eq_none_iff_forall_not_mem.2 fun r hr => ?_
  exact (decodeDataDown_eq_some.1 hr).1.mtype.elim h3 h5

/-- Settles O44: the checks and the fields, with the bytes of the frame written out. -/
theorem dataDownNeedsAddressAndMic : Obligations.DataDownNeedsAddressAndMic := by
  intro s f r h n hd data
  obtain ⟨⟨hn, hm, ha, hh, hmic, hfit⟩, rfl⟩ := decodeDataDown_eq_some.1 h
  have hhd : hd = downHeader f := by simp only [hd, downHeader, foptsLen_eq]; rfl
  have haddr : ((f.drop 1).take 4).reverse = s.session.devAddr.toList := by
    rw [← ha, toList_addrAt (by omega)]
  have hfcnt : le16 (downFcnt f) = (f.drop 6).take 2 := by
    have h6 : 6 < f.length := by omega
    have h7 : 7 < f.length := by omega
    have htwo : (f.drop 6).take 2 = [f[6], f[7]] := by
      rw [List.drop_eq_getElem_cons h6, List.drop_eq_getElem_cons h7]
      rfl
    simp [downFcnt, h6, h7, htwo]
  have hpay : downPayload s f =
      if hd < n - 4 then cryptList (payloadKey s (downPort f)) 1#1 s.session.devAddr (downFcnt f) data else [] := by
    simp only [data, hhd]
    rfl
  refine ⟨hn, hhd ▸ hh, rfl, hm, rfl, haddr, rfl, hfcnt, hmic, ?_, ?_, hpay, hfit⟩ <;> rw [hhd] <;> rfl

/-! ### A data downlink built for this device (R156, R157, R237) -/

/-- The bytes of a data downlink before its MIC, `rest` being the FOpts, FPort and the payload. -/
def downMsg (mhdr : Byte) (addr : Bytes 4) (fctrl : Byte) (c : U16) (rest : List Byte) : List Byte :=
  mhdr :: (addr.toList.reverse ++ fctrl :: (le16 c ++ rest))

section

variable {mhdr fctrl : Byte} {addr : Bytes 4} {c : U16} {rest : List Byte}

theorem downMsg_append (l : List Byte) :
    downMsg mhdr addr fctrl c rest ++ l = downMsg mhdr addr fctrl c (rest ++ l) := by
  simp [downMsg]

theorem length_downMsg : (downMsg mhdr addr fctrl c rest).length = 8 + rest.length := by
  simp [downMsg, le16]
  omega

/-- The eight bytes before the FOpts, one by one. -/
theorem downMsg_eq : downMsg mhdr addr fctrl c rest =
    [mhdr, addr[3], addr[2], addr[1], addr[0], fctrl, c.extractLsb' 0 8, c.extractLsb' 8 8] ++ rest := by
  obtain ⟨⟨l⟩, hl⟩ := addr
  match l, hl with
  | [a0, a1, a2, a3], _ => rfl

theorem getD_downMsg_add (k : Nat) : (downMsg mhdr addr fctrl c rest).getD (8 + k) 0#8 = rest.getD k 0#8 := by
  rw [downMsg_eq, List.getD_append_right _ _ _ _ (by simp)]
  simp

theorem drop_downMsg_add (k : Nat) : (downMsg mhdr addr fctrl c rest).drop (8 + k) = rest.drop k := by
  rw [downMsg_eq, ← List.drop_drop]
  rfl

theorem downFcnt_downMsg : downFcnt (downMsg mhdr addr fctrl c rest) = c := by
  simp [downMsg_eq, downFcnt]

theorem addrAt_downMsg : addrAt (downMsg mhdr addr fctrl c rest) 1 = addr := by
  have h : ((downMsg mhdr addr fctrl c rest).drop 1).take 4 = addr.toList.reverse := by
    rw [downMsg, List.drop_one, List.tail_cons, List.take_left' (by simp)]
  apply Vector.toList_inj.1
  rw [toList_addrAt (by rw [length_downMsg]; omega), h, List.reverse_reverse]

end

@[simp] theorem cryptList_nil (key : Bytes 16) (dir : BitVec 1) (a : Bytes 4) (c : U16) :
    cryptList key dir a c [] = [] := List.length_eq_zero_iff.1 (length_cryptList key dir a c [])

/-- The frame of the FOpts and the body, FPort and data or nothing, decodes to its fields. -/
theorem decodeDataDown_downMsg {s : State} {mhdr fctrl : Byte} {c : U16} {fopts body msg : List Byte}
    (hm : mtypeOf mhdr = 3#3 ∨ mtypeOf mhdr = 5#3) (hopts : fopts.length = foptsLen fctrl)
    (hmsg : msg = downMsg mhdr s.session.devAddr fctrl c (fopts ++ body)) (hfit : body.tail.length ≤ Config.bufCap) :
    decodeDataDown s (msg ++ micDataList s 1#1 c msg) = some
      { mhdr := mhdr, confirmed := mtypeOf mhdr = 5#3, fctrl := fctrl, fcnt := c, fport := body.headD 0#8
        fportPresent := body ≠ []
        payload := cryptList (payloadKey s (body.headD 0#8)) 1#1 s.session.devAddr c body.tail } := by
  have hmicl := length_micDataList s 1#1 c msg
  generalize hmic : micDataList s 1#1 c msg = mic at hmicl
  generalize hf : msg ++ mic = f
  have hrest : f = downMsg mhdr s.session.devAddr fctrl c (fopts ++ (body ++ mic)) := by
    rw [← hf, hmsg, downMsg_append, List.append_assoc]
  have hlen : f.length = 12 + fopts.length + body.length := by
    simp only [hrest, length_downMsg, List.length_append, hmicl]
    omega
  have hmsgl : f.length - 4 = msg.length := by simp [← hf, hmicl]
  have hhead : downHeader f = 8 + fopts.length := by rw [hopts, hrest, downMsg_eq]; rfl
  have hmhdr : f.getD 0 0#8 = mhdr := by rw [hrest]; rfl
  have hfctrl : f.getD 5 0#8 = fctrl := by rw [hrest, downMsg_eq]; rfl
  have hfcnt : downFcnt f = c := by rw [hrest, downFcnt_downMsg]
  have hbody : downHeader f < f.length - 4 ↔ body ≠ [] := by
    rw [← List.length_pos_iff]
    omega
  have hport : downPort f = body.headD 0#8 := by
    rw [downPort, hhead, hrest, getD_downMsg_add, ← hrest, ← hhead]
    cases body <;> simp [hbody]
  have hdata : slice f (downHeader f + 1) (f.length - 4) = body.tail := by
    have hcount : f.length - 4 - (8 + (fopts.length + 1)) = body.length - 1 := by omega
    rw [slice, hhead, Nat.add_assoc, hcount, hrest, drop_downMsg_add]
    cases body <;> simp [← List.drop_drop]
  have hpay : downPayload s f = cryptList (payloadKey s (body.headD 0#8)) 1#1 s.session.devAddr c body.tail := by
    rw [downPayload, hport, hfcnt, hdata]
    split
    · rfl
    · next hnone =>
      have hnil : body = [] := not_not.1 (mt hbody.2 hnone)
      simp [hnil]
  refine decodeDataDown_eq_some.2 ⟨⟨by omega, hmhdr ▸ hm, ?_, by omega, ?_, ?_⟩, ?_⟩
  · rw [hrest, addrAt_downMsg]
  · rw [hfcnt, hmsgl, ← hf, List.drop_left, List.take_left, hmic]
  · rw [hpay, length_cryptList]
    exact hfit
  · simp only [downInfo, hmhdr, hfctrl, hfcnt, hport, hpay, hbody]

/-- Settles O43: both layouts are the one frame, without a body and with FPort and data as its body. -/
theorem dataDownFrameDecodes : Obligations.DataDownFrameDecodes := by
  intro s mhdr fctrl c fopts hm hopts mic head
  rw [← foptsLen_eq] at hopts
  have hhead (body : List Byte) : head ++ body = downMsg mhdr s.session.devAddr fctrl c (fopts ++ body) := by
    simp [head, downMsg]
  have hdec (body : List Byte) := decodeDataDown_downMsg (body := body) hm hopts (hhead body)
  refine ⟨?_, fun port data hfit => hdec (port :: data) hfit⟩
  have h := hdec [] (Nat.zero_le _)
  rwa [List.append_nil, List.tail_nil, cryptList_nil] at h

end Sys2Proof.Machine
end

section
/-! Received frames: the join-accept (O35), the accepted downlink (O45), and what is no message (O36, O46). -/

namespace Sys2Proof.Machine

open Sys2Proof.Claims

/-! ### The radio's mode once the frame is read (R530) -/

/-- RadioSetMode has no frame to keep where RX_SLOT is empty (R530). -/
theorem State.commandMode_of_emptySlot {s : State} (m : RadioMode) (h : s.radio.rxSlot = none) : s.commandMode m =
    { s with
      status.radioMode := m
      radio.rxSlot := none
      observed.modeLog := s.observed.modeLog ++ [m]
      schedule.draws := s.schedule.draws + 1 } := by
  rw [State.commandMode, h, ite_self]

/-! ### Which frames are no message (R152, R162, R235, R503) -/

/-- A frame of another kind or another length is no join-accept. -/
theorem decodeJoinAccept_eq_none {s : State} {f : List Byte}
    (h : mtypeOf (f.getD 0 0#8) ≠ 1#3 ∨ f.length ≠ 17 ∧ f.length ≠ 33) : decodeJoinAccept s f = none := by
  simp only [decodeJoinAccept]
  split
  · rfl
  · next hlen => rw [if_pos (h.resolve_right hlen)]

/-- A frame that the phase's decoder rejects is taken, and the wait goes on (R274, R503). -/
theorem receiveFrame_noMessage_of_joinWait {s : State} {f : List Byte} (hq : s.sequencer.seq = .joinWait)
    (hr : s.status.radioReady = true) (h : decodeJoinAccept s f = none) :
    receiveFrame f s = .next (tookNoMessage f s) := by
  rw [receiveFrame_of_joinWait f hq, joinFrame_eq_ok.2 ⟨hr, .inl ⟨h, rfl⟩⟩]
  rfl

theorem receiveFrame_noMessage_of_window {s : State} {f : List Byte} (hq : windowOpen s)
    (hr : s.status.radioReady = true) (h : decodeDataDown s f = none) :
    receiveFrame f s = .next (tookNoMessage f s) := by
  rw [receiveFrame_of_window f hq, cycleFrame_eq_ok.2 ⟨hr, .inl ⟨h, rfl⟩⟩]
  rfl

/-- Outside the receive phases the frame waits (R520; log 9). -/
theorem receiveFrame_of_not_receiving {s : State} (f : List Byte) (h : ¬ receiving s) :
    receiveFrame f s = .next s := by
  unfold receiveFrame
  split <;> simp_all [receiving]

/-- Settles O36: the kind or the length keeps DECODE_JOIN_ACCEPT from accepting the frame. -/
theorem otherFramesLeaveTheJoinWaitOpen : Obligations.OtherFramesLeaveTheJoinWaitOpen := by
  intro low body s hq hr
  refine ⟨fun i hi => ?_, fun ⟨h16, h32⟩ => ?_⟩
  · obtain ⟨hc, hkind⟩ : i.isCommand = false ∧ mtypeOf ((encode i).getD 0 0#8) ≠ 1#3 := by
      fin_cases hi <;> simp [encode, Instr.isCommand]
    rw [exec_eq_receiveFrame_encode hc]
    exact receiveFrame_noMessage_of_joinWait hq hr (decodeJoinAccept_eq_none (.inl hkind))
  · exact receiveFrame_noMessage_of_joinWait hq hr (decodeJoinAccept_eq_none (.inr (by simp; omega)))

/-- Settles O46: a kind that is no data-down is rejected whatever it holds; outside the receive phases no decoder is
asked. -/
theorem unacceptedFramesChangeNothing : Obligations.UnacceptedFramesChangeNothing := by
  intro low body s
  refine ⟨fun hq hr i hi => ?_, fun hq hr i hi hd => ?_, fun hn i hi => ?_⟩
  · obtain ⟨hc, h3, h5⟩ : i.isCommand = false ∧ mtypeOf ((encode i).getD 0 0#8) ≠ 3#3 ∧
        mtypeOf ((encode i).getD 0 0#8) ≠ 5#3 := by
      fin_cases hi <;> simp [encode, Instr.isCommand]
    rw [exec_eq_receiveFrame_encode hc]
    exact receiveFrame_noMessage_of_window hq hr (decodeDataDown_eq_none_of_mtype h3 h5)
  · have hc : i.isCommand = false := by fin_cases hi <;> rfl
    rw [exec_eq_receiveFrame_encode hc]
    exact receiveFrame_noMessage_of_window hq hr hd
  · have hc : i.isCommand = false := by fin_cases hi <;> rfl
    rw [exec_eq_receiveFrame_encode hc]
    exact receiveFrame_of_not_receiving _ hn

/-! ### The join-accept (R154, R235, R236, R276) -/

/-- The fields of a join-accept, `p` being its decrypted bytes. -/
def joinInfo (p : List Byte) : JoinAcceptInfo :=
  { appNonce := bytesAt p 0 3, netId := bytesAt p 3 3, devAddr := addrAt p 6, dlSettings := p.getD 10 0#8
    rxDelay := p.getD 11 0#8, cfList := if p.length = 32 then slice p 12 28 else [] }

/-- A join-accept of either length is accepted exactly where the MIC of its decrypted bytes matches. -/
theorem decodeJoinAccept_of_length {s : State} {mhdr : Byte} {body : List Byte} (hm : mtypeOf mhdr = 1#3)
    (hl : body.length = 16 ∨ body.length = 32) :
    let p := jaDecryptList s.identity.appKey body
    decodeJoinAccept s (mhdr :: body) =
      if p.drop (body.length - 4) = micJoinList s.identity.appKey (mhdr :: p.take (body.length - 4)) then
        some (joinInfo p)
      else none := by
  intro p
  have hp : p.length = body.length := length_jaDecryptList _ _
  have hlen : ¬((mhdr :: body).length ≠ 17 ∧ (mhdr :: body).length ≠ 33) := by
    simp only [List.length_cons]
    omega
  have hdrop : slice p (body.length - 4) body.length = p.drop (body.length - 4) := by rw [← hp, slice_to_end]
  have hdef : decodeJoinAccept s (mhdr :: body) =
      if (mhdr :: body).length ≠ 17 ∧ (mhdr :: body).length ≠ 33 then none
      else if mtypeOf mhdr ≠ 1#3 then none
      else if slice p (body.length - 4) body.length ≠
        micJoinList s.identity.appKey (mhdr :: p.take (body.length - 4)) then none
      else some
        { joinInfo p with cfList := if (mhdr :: body).length = 33 then slice p 12 28 else [] } := rfl
  rw [hdef, if_neg hlen, if_neg (not_not.2 hm), hdrop, ite_not]
  simp [joinInfo, hp]

/-- Settles O35: the frame is accepted exactly where the MIC matches, and then the commit and JOIN_END follow. -/
theorem joinAcceptCommitsTheSessionIfItsMicMatches : Obligations.JoinAcceptCommitsTheSessionIfItsMicMatches := by
  intro low body s hq hr hl p n
  have hp : p.length = body.length := length_jaDecryptList s.identity.appKey body
  refine ⟨(joinInfo p).appNonce, (joinInfo p).netId, (joinInfo p).devAddr, toList_bytesAt (by omega),
    toList_bytesAt (by omega), toList_addrAt (by omega), ?_⟩
  rw [exec_eq_receiveFrame_encode rfl]
  have hdec := decodeJoinAccept_of_length (s := s) (mtypeOf_mhdrOf 1 low) hl
  split
  · next hmic =>
    replace hdec := hdec.trans (if_pos hmic)
    have hframe := joinFrame_eq_ok.2 ⟨hr, .inr ⟨_, hdec, joinEnd_eq_ok.2 ⟨hr, rfl⟩⟩⟩
    rw [receiveFrame_of_joinWait _ hq, encode, hframe, State.commandMode_of_emptySlot _ rfl]
    rfl
  · next hmic => exact receiveFrame_noMessage_of_joinWait hq hr (hdec.trans (if_neg hmic))

/-! ### The accepted downlink (R239, R310, R311) -/

theorem fctrlAck_eq (b : Byte) : fctrlAck b = decide (b &&& 0x20#8 ≠ 0#8) := by
  revert b
  decide

/-- The larger of two counters, as a number (R41). -/
theorem raisedFcnt_eq (a b : U16) : (if a < b then b else a) = BitVec.ofNat 16 (max a.toNat b.toNat) := by
  simp only [BitVec.lt_def]
  split
  · rw [max_eq_right (by omega), BitVec.ofNat_toNat, BitVec.setWidth_eq]
  · rw [max_eq_left (by omega), BitVec.ofNat_toNat, BitVec.setWidth_eq]

theorem State.acceptHeader_eq (r : DataDownInfo) (s : State) : s.acceptHeader r =
    { s with
      session.fcntRx := BitVec.ofNat 16 (max s.session.fcntRx.toNat r.fcnt.toNat)
      buffers.msgMeta :=
        { dir := .down, mhdr := r.mhdr, fctrl := if r.fctrl &&& 0x20#8 ≠ 0#8 then r.fctrl &&& 0xDF#8 else r.fctrl
          fport := r.fport, fportPresent := r.fportPresent }
      status.ackLatch := s.status.ackLatch || decide (r.fctrl &&& 0x20#8 ≠ 0#8) } := by
  rw [← raisedFcnt_eq]
  by_cases hack : r.fctrl &&& 0x20#8 = 0#8 <;>
    simp [State.acceptHeader, State.raiseFcntRx, State.latchAck, State.acceptMeta, fctrlAck_eq, fctrlClearAck, hack]

/-- The event of a payload, where a callback is registered (R65, R136). -/
theorem State.emitMessage_eq (p : List Byte) (b : Bool) (q : Byte) (s : State) : s.emitMessage p b q =
    { s with observed.hostLog := s.observed.hostLog ++
        if s.status.cbEn = true then [.event (onMessageBytes p b q)] else [] } := by
  unfold State.emitMessage
  split
  · rfl
  · rw [List.append_nil]

/-- RESULT answers where the payload fits the buffer, which is written only for a payload (R310). -/
theorem resultA_eq {r : DataDownInfo} (hfit : r.payload.length ≤ Config.bufCap) (s : State) : resultA r s = .ok
    { s with
      session.fcntRx := BitVec.ofNat 16 (max s.session.fcntRx.toNat r.fcnt.toNat)
      buffers.rxBuf := Memory.writeMany s.buffers.rxBuf 0 r.payload
      buffers.rxLen := if r.payload ≠ [] then BitVec.ofNat 8 r.payload.length else s.buffers.rxLen
      buffers.msgMeta :=
        { dir := .down, mhdr := r.mhdr, fctrl := if r.fctrl &&& 0x20#8 ≠ 0#8 then r.fctrl &&& 0xDF#8 else r.fctrl
          fport := r.fport, fportPresent := r.fportPresent }
      status.ackLatch := s.status.ackLatch || decide (r.fctrl &&& 0x20#8 ≠ 0#8)
      status.rxLatch := s.status.rxLatch || decide (r.payload ≠ [])
      observed.hostLog := s.observed.hostLog ++ if r.payload ≠ [] ∧ s.status.cbEn = true then
        [.event (onMessageBytes r.payload r.confirmed r.fport)] else [] } := by
  rw [resultA, State.acceptHeader_eq]
  by_cases hp : r.payload = []
  · rw [storePayload_eq_ok.2 (.inl ⟨hp, rfl⟩)]
    simp [hp, Memory.writeMany]
  · rw [storePayload_eq_ok.2 (.inr ⟨hp, hfit, rfl⟩), State.emitMessage_eq]
    simp [hp]

/-- The mode in which a cycle leaves the radio (R311). -/
def cycleEndMode (s : State) : RadioMode := if s.settings.classReq = .c then rx2Listen else .standby

/-- CYCLE_END answers with an initialised radio: standby, or armed on RX2 where Class C is wanted (R311). -/
theorem cycleEnd_eq {s : State} (hr : s.status.radioReady = true) (hslot : s.radio.rxSlot = none) :
    cycleEnd s = .ok
      { s with
        session.classCur := if s.settings.classReq = .c then .c else s.session.classCur
        status.cmd := .noCommand
        status.radioMode := cycleEndMode s
        sequencer.seq := .idle
        radio.rxSlot := none
        port := none
        observed.hostLog := s.observed.hostLog ++ [.response [0x00#8]]
        observed.modeLog := s.observed.modeLog ++ [cycleEndMode s]
        schedule.draws := s.schedule.draws + 1 } := by
  have hmode (m : RadioMode) := State.commandMode_of_emptySlot (s := { s with status.cmd := .noCommand }) m hslot
  unfold cycleEndMode
  cases hc : s.settings.classReq with
  | a =>
    rw [cycleEnd_eq_ok.2 ⟨hr, .inl ⟨hc, rfl⟩⟩, hmode]
    rfl
  | c =>
    rw [cycleEnd_eq_ok.2 ⟨hr, .inr ⟨hc, rfl⟩⟩, hmode]
    rfl

/-- Settles O45: the payload of an accepted frame fits the buffer (R237), so RESULT and CYCLE_END both answer. -/
theorem acceptedDownlinkEndsTheCycle : Obligations.AcceptedDownlinkEndsTheCycle := by
  intro low body s r i hi hq hr hd ack data toC mode event
  have hc : i.isCommand = false := by fin_cases hi <;> rfl
  have hres := resultA_eq (payload_length_of_decodeDataDown hd) (s.readSlot (encode i))
  have hframe := cycleFrame_eq_ok.2 ⟨hr, .inr ⟨r, _, hd, hres, cycleEnd_eq hr rfl⟩⟩
  rw [exec_eq_receiveFrame_encode hc, receiveFrame_of_window _ hq, hframe]
  refine ⟨Memory.writeMany s.buffers.rxBuf 0 r.payload, rfl, fun a ha => ?_, fun a ha => ?_⟩
  · simpa using Memory.read_writeMany_same s.buffers.rxBuf (i := 0) r.payload ha
  · exact Memory.read_writeMany_other _ _ (.inr (by omega))

end Sys2Proof.Machine
end

section
/-! What the blocking commands transmit: JOIN (O33) and UPDATE with an uplink or an ack pending (O39, O40). -/

namespace Sys2Proof.Machine

open Sys2Proof.Claims

/-! ### The channel of a transmission (R373) -/

theorem hopChannel_eq (s : State) : hopChannel s =
    { s with
      settings.txCh := txChannel s
      settings.rxCh := rxChannel s
      status.prngState := prngAfterChannel s } := by
  cases hm : s.settings.chMode with
  | fixed =>
    have htx : txChannel s = s.settings.txCh := by simp only [txChannel, hm]
    have hrx : rxChannel s = s.settings.rxCh := by simp only [rxChannel, hm]
    have hprng : prngAfterChannel s = s.status.prngState := by simp only [prngAfterChannel, hm]
    rw [htx, hrx, hprng, hopChannel, if_neg (by simp [hm])]
  | multi =>
    have htx : txChannel s = (randomChannel s).settings.txCh := by simp only [txChannel, hm]; rfl
    have hrx : rxChannel s = (randomChannel s).settings.rxCh := by simp only [rxChannel, txChannel, hm]; rfl
    have hprng : prngAfterChannel s = (randomChannel s).status.prngState := by simp only [prngAfterChannel, hm]; rfl
    rw [htx, hrx, hprng, hopChannel, if_pos hm]
    rfl

/-- Standby, then the transmission: the two primitives with which JOIN and CYCLE_START end (R271, R304, R531). -/
theorem State.transmit_commandMode_standby (e : TxEntry) (s : State) : (s.commandMode .standby).transmit e =
    { s with
      status.radioMode := .tx
      radio.rxSlot := slotAfterMode s
      radio.txPending := true
      observed.txLog := s.observed.txLog ++ [e]
      observed.modeLog := s.observed.modeLog ++ [.standby, .tx]
      schedule.draws := s.schedule.draws + 1 } := by
  simp [State.transmit, State.commandMode]

/-! ### The join-request (R153, R232, R271) -/

/-- JOIN_NONCE's first draw, after the channel's: the byte and the next PRNG_STATE (R272). -/
def firstNonceDraw (s : State) : Fin 256 × U32 := Config.prngDraw (prngAfterChannel s) 255

/-- JOIN_NONCE's second draw (R272). -/
def secondNonceDraw (s : State) : Fin 256 × U32 := Config.prngDraw (firstNonceDraw s).2 255

/-- The DevNonce that a JOIN in `s` draws. -/
def joinNonce (s : State) : Bytes 2 :=
  #v[BitVec.ofNat 8 (firstNonceDraw s).1.val, BitVec.ofNat 8 (secondNonceDraw s).1.val]

theorem prepareJoin_eq (s : State) : prepareJoin s =
    { s with
      joinMat.devNonce := joinNonce s
      session.classCur := .a
      settings.txCh := txChannel s
      settings.rxCh := rxChannel s
      buffers.msgMeta := { dir := .up, mhdr := 0x00#8, fctrl := 0#8, fport := 0#8, fportPresent := false }
      status.cmd := .join
      status.prngState := (secondNonceDraw s).2
      sequencer.frame := joinRequestFrame { s with joinMat.devNonce := joinNonce s } } := by
  rw [prepareJoin, hopChannel_eq]
  rfl

/-- Settles O33: what JOIN prepares, then the transmission. -/
theorem joinTransmitsTheJoinRequest : Obligations.JoinTransmitsTheJoinRequest := by
  intro s hr hv d0 d1 nonce msg frame
  have hmsg : msg = joinRequestMsg { s with joinMat.devNonce := joinNonce s } := by
    simp only [msg, joinRequestMsg, List.append_assoc]
    rfl
  have hframe : frame = joinRequestFrame { s with joinMat.devNonce := joinNonce s } := by
    simp only [frame, hmsg]
    rfl
  have hchan : (prepareJoin s).settings.txCh = txChannel s := by rw [prepareJoin_eq]
  refine ⟨by rw [hframe, length_joinRequestFrame], ?_⟩
  rw [exec, execJoin, startJoin_eq_ok.2 ⟨hr, hchan ▸ hv, rfl⟩, State.transmit_commandMode_standby, prepareJoin_eq,
    hframe]
  rfl

/-! ### The data uplinks (R233, R304, R305) -/

theorem State.fcntAdvance_eq (s : State) : s.fcntAdvance =
    { s with
      session.fcntTx := BitVec.ofNat 16 (s.session.fcntTx.toNat + 1)
      status.fcntWrapped := s.status.fcntWrapped || decide (s.session.fcntTx.toNat = 0xFFFF) } := by
  have hnext : s.session.fcntTx + 1#16 = BitVec.ofNat 16 (s.session.fcntTx.toNat + 1) := by
    apply BitVec.eq_of_toNat_eq
    simp
  have hwrap : (s.session.fcntTx == 0xFFFF#16) = decide (s.session.fcntTx.toNat = 0xFFFF) := by
    rw [beq_eq_decide]
    exact decide_eq_decide.2 BitVec.toNat_inj.symm
  rw [State.fcntAdvance, hnext, hwrap]

/-- CYCLE_START, once the payload is read: the frame is the encoder's over the state before the channel was drawn. -/
theorem cycleStart_eq {kind : DataKind} {payload : List Byte} {s : State} (hr : s.status.radioReady = true)
    (hv : Config.chValid (txChannel s) = true)
    (hp : kind = .uplink ∧ memRead s.buffers.txBuf 0 s.buffers.txLen.toNat = .ok payload ∨
      kind = .ack ∧ payload = []) :
    cycleStart kind s = .ok
      { s with
        session.classCur := .a
        session.fcntTx := BitVec.ofNat 16 (s.session.fcntTx.toNat + 1)
        settings.txCh := txChannel s
        settings.rxCh := rxChannel s
        buffers.msgMeta := dataUpMeta kind s
        status.radioMode := .tx
        status.prngState := prngAfterChannel s
        status.fcntWrapped := s.status.fcntWrapped || decide (s.session.fcntTx.toNat = 0xFFFF)
        sequencer.seq := .cycTx
        sequencer.frame := dataUpFrame kind s payload
        radio.rxSlot := slotAfterMode s
        radio.txPending := true
        observed.txLog := s.observed.txLog ++
          [{ frame := dataUpFrame kind s payload, ch := .up (txChannel s), dr := s.settings.txDr.setWidth 8
             pwr := s.settings.txPower }]
        observed.modeLog := s.observed.modeLog ++ [.standby, .tx]
        schedule.draws := s.schedule.draws + 1 } := by
  have hprep : prepareCycle s =
      { s with
        session.classCur := .a
        settings.txCh := txChannel s
        settings.rxCh := rxChannel s
        status.prngState := prngAfterChannel s } := hopChannel_eq { s with session.classCur := .a }
  have henc := (encodeDataUp_eq_ok (s := prepareCycle s)).2 ⟨payload, by simpa using hp, rfl⟩
  have hchan : (prepareCycle s).settings.txCh = txChannel s := by rw [hprep]
  rw [cycleStart_eq_ok.2 ⟨_, henc, by simpa using hr, hchan ▸ hv, rfl⟩, hprep, State.transmit_commandMode_standby,
    State.fcntAdvance_eq]
  rfl

theorem updateStep_of_uplink {s : State} (h : s.status.cmd = .uplink) : updateStep s = cycleStart .uplink s := by
  simp only [updateStep, h]

theorem updateStep_of_ack {s : State} (h : s.status.cmd = .ack) : updateStep s = cycleStart .ack s := by
  simp only [updateStep, h]

/-- Settles O39: CYCLE_START of an uplink, whose payload lies within BUF_CAP. -/
theorem updateTransmitsThePendingUplink : Obligations.UpdateTransmitsThePendingUplink := by
  intro s hc hr hv hfit payload key c mhdr msg frame
  have hpay : memRead s.buffers.txBuf 0 s.buffers.txLen.toNat = .ok payload := by
    refine memRead_eq_ok.2 ⟨by omega, ?_⟩
    simp [Memory.readMany_eq_map, payload]
  have hmhdr : dataUpMhdr .uplink s = mhdr := by simp [dataUpMhdr, mhdr]
  have hmsg : msg = dataUpMsg .uplink s payload := by
    simp only [msg, ← hmhdr, dataUpMsg, List.append_assoc]
    rfl
  have hframe : frame = dataUpFrame .uplink s payload := by
    simp only [frame, hmsg]
    rfl
  refine ⟨by simp [hframe, length_dataUpFrame, payload], ?_⟩
  rw [exec, execUpdate, updateStep_of_uplink hc, cycleStart_eq hr hv (.inl ⟨rfl, hpay⟩), hframe, ← hmhdr]
  rfl

/-- Settles O40: CYCLE_START of an ack, which reads no payload. -/
theorem updateTransmitsThePendingAck : Obligations.UpdateTransmitsThePendingAck := by
  intro s hc hr hv c msg frame
  have hmsg : msg = dataUpMsg .ack s [] := by
    simp only [msg, dataUpMsg, List.append_assoc]
    rfl
  have hframe : frame = dataUpFrame .ack s [] := by
    simp only [frame, hmsg]
    rfl
  refine ⟨by simp [hframe, length_dataUpFrame], ?_⟩
  rw [exec, execUpdate, updateStep_of_ack hc, cycleStart_eq hr hv (.inr ⟨rfl, rfl⟩), hframe]
  rfl

end Sys2Proof.Machine
end

section
/-! The session store: the hexadecimal operand text (O15, O16), the identity and key setters (O14) and the counter
accessors (O17). -/

namespace Sys2Proof.Machine

open Sys2Proof.Claims

/-! ### Digits (R137, R200, R201) -/

/-- HEXDIGIT inverts the upper-case digits of HEXENC, whatever the case of its argument. -/
theorem hexDigit_eq_some_iff {c v : Byte} : hexDigit c = some v ↔ v < 16#8 ∧ upperCase c = hexChar v := by
  simp only [hexDigit, upperCase, hexChar]
  split_ifs <;> simp only [Option.some.injEq, false_iff] <;> bv_omega

theorem hexDigit_eq_none_iff {c : Byte} : hexDigit c = none ↔ ¬ isHexDigit c := by
  simp only [hexDigit, isHexDigit]
  split_ifs <;> simp_all

theorem exists_hexDigit_eq_some {c : Byte} (h : isHexDigit c) : ∃ v, hexDigit c = some v := by
  rw [← Option.ne_none_iff_exists']
  exact fun hn => hexDigit_eq_none_iff.1 hn h

/-! ### Pairs (R200) -/

theorem hexPair_of_digits {c1 c2 hi lo : Byte} (h1 : hexDigit c1 = some hi) (h2 : hexDigit c2 = some lo) (k : Nat) :
    hexPair c1 c2 k = hi <<< 4 ||| lo := by
  simp only [hexPair, h1, h2]

theorem hexPair_of_malformed {c1 c2 : Byte} (h : ¬ isHexDigit c1 ∨ ¬ isHexDigit c2) (k : Nat) :
    hexPair c1 c2 k = Config.hexBad k := by
  rcases h with h | h
  · simp only [hexPair, hexDigit_eq_none_iff.2 h]
  · cases h1 : hexDigit c1 <;> simp only [hexPair, h1, hexDigit_eq_none_iff.2 h]

/-- Two nibbles side by side do not overlap. -/
theorem toNat_nibbles {hi lo : Byte} (hhi : hi < 16#8) (hlo : lo < 16#8) :
    (hi <<< 4 ||| lo).toNat = 16 * hi.toNat + lo.toNat := by
  have hhi : hi.toNat < 16 := hhi
  have hlo : lo.toNat < 2 ^ 4 := hlo
  have hshift : (hi.toNat <<< 4) % 2 ^ 8 = 2 ^ 4 * hi.toNat := by omega
  rw [BitVec.toNat_or, BitVec.toNat_shiftLeft, hshift, ← Nat.two_pow_add_eq_or_of_lt hlo]

theorem getElem_hexDecode {text : List Byte} {n i : Nat} (k : Nat) (h : i < n) (h2 : 2 * i + 1 < text.length) :
    (hexDecode text n k)[i] = hexPair text[2 * i] text[2 * i + 1] (k + i) := by
  simp [hexDecode, List.getElem?_eq_getElem h2, List.getElem?_eq_getElem (Nat.lt_of_succ_lt h2)]

/-- Settles O16: byte i is the pair i, by itself. -/
theorem hexPairsDecodeOneByOne : Obligations.HexPairsDecodeOneByOne := by
  intro n k i text h h2 c1 c2
  rw [getElem_hexDecode k h h2]
  refine ⟨fun hi lo hhi hlo hup1 hup2 => ?_, fun hbad => hexPair_of_malformed hbad _⟩
  have hd1 : hexDigit c1 = some hi := hexDigit_eq_some_iff.2 ⟨hhi, hup1⟩
  have hd2 : hexDigit c2 = some lo := hexDigit_eq_some_iff.2 ⟨hlo, hup2⟩
  rw [hexPair_of_digits hd1 hd2, toNat_nibbles hhi hlo]

/-! ### The round trip (R201) -/

theorem toList_hexDecode_cons_cons (c1 c2 : Byte) (text : List Byte) (n k : Nat) :
    (hexDecode (c1 :: c2 :: text) (n + 1) k).toList = hexPair c1 c2 k :: (hexDecode text n (k + 1)).toList := by
  simp [hexDecode, Vector.toList_ofFn, List.ofFn_succ, Nat.mul_add, Nat.add_assoc, Nat.add_comm 1]

/-- HEXENC writes the two nibbles of a byte as digits. -/
theorem hexEncode_nibbles_cons {hi lo : Byte} (hhi : hi < 16#8) (hlo : lo < 16#8) (bytes : List Byte) :
    hexEncode ((hi <<< 4 ||| lo) :: bytes) = hexChar hi :: hexChar lo :: hexEncode bytes := by
  have hval := toNat_nibbles hhi hlo
  have hhigh : (hi <<< 4 ||| lo) >>> (4 : Nat) = hi := by
    apply BitVec.eq_of_toNat_eq
    rw [BitVec.toNat_ushiftRight, hval]
    bv_omega
  have hlow : (hi <<< 4 ||| lo) &&& 0x0F#8 = lo := by
    apply BitVec.eq_of_toNat_eq
    rw [BitVec.toNat_and, hval]
    exact (Nat.and_two_pow_sub_one_eq_mod _ 4).trans (by bv_omega)
  simp only [hexEncode, List.flatMap_cons, hhigh, hlow, List.cons_append, List.nil_append]

/-- Settles O15: by induction on the number of pairs; the digits of a pair's byte are the pair in upper case. -/
theorem hexTextRoundTrips : Obligations.HexTextRoundTrips := by
  intro n
  induction n with
  | zero =>
    intro k text hlen _
    obtain rfl := List.length_eq_zero_iff.1 hlen
    rfl
  | succ n ih =>
    intro k text hlen hdigits
    match text, hlen with
    | c1 :: c2 :: text, hlen =>
      simp only [List.forall_mem_cons] at hdigits
      obtain ⟨hc1, hc2, htext⟩ := hdigits
      obtain ⟨hi, h1⟩ := exists_hexDigit_eq_some hc1
      obtain ⟨lo, h2⟩ := exists_hexDigit_eq_some hc2
      obtain ⟨hhi, hup1⟩ := hexDigit_eq_some_iff.1 h1
      obtain ⟨hlo, hup2⟩ := hexDigit_eq_some_iff.1 h2
      have hrest : hexEncode (hexDecode text n (k + 1)).toList = text.map upperCase :=
        ih (k + 1) text (by simp only [List.length_cons] at hlen; omega) htext
      rw [toList_hexDecode_cons_cons, hexPair_of_digits h1 h2, hexEncode_nibbles_cons hhi hlo, hrest,
        List.map_cons, List.map_cons, hup1, hup2]

/-! ### The setters and the counters (R202 to R212) -/

/-- What the setters share once the register is written: the counted draws, SESSION_RESET (R202) and the response. -/
theorem State.respond_sessionReset_countDraws (n : Nat) (b : List Byte) (t : State) :
    (t.countDraws n).sessionReset.respond b = answered b
      { t with
        session.fcntTx := 0#16
        session.fcntRx := 0#16
        status.cmd := .noCommand
        schedule.draws := t.schedule.draws + n } := rfl

/-- Settles O14: each setter writes its register, then does what the setters share. -/
theorem identitySettersWriteAndResetSession : Obligations.IdentitySettersWriteAndResetSession := by
  intro text s k cleared
  have hshared (n : Nat) (t : State) (ht : t.schedule.draws = k) :
      (.next ((t.countDraws n).sessionReset.respond [0x00#8]) : Host.Outcome State Fault Refusal) =
        .next (cleared n t) := by
    rw [State.respond_sessionReset_countDraws, ht]
  exact ⟨hshared 8 _ rfl, hshared 8 _ rfl, hshared 16 _ rfl, hshared 16 _ rfl, hshared 16 _ rfl, hshared 4 _ rfl⟩

/-- Settles O17: each accessor is one write or one read of its counter, and a response. -/
theorem counterAccessorsStoreAndReport : Obligations.CounterAccessorsStoreAndReport :=
  fun _ _ => ⟨rfl, rfl, rfl, rfl⟩

end Sys2Proof.Machine
end

section
/-! The join over time: the step of a received frame (O8), the phases' deadlines (O34) and the run of a join wait that
nothing answers (O37). -/

namespace Sys2Proof.Machine

open Sys2Proof.Claims

/-! ### A received frame's step (R520, R522) -/

/-- In a receive phase CTRL fetches the frame in RX_SLOT, whatever the deadline. -/
theorem fetch_of_receiving {s : State} {f : List Byte} (hq : receiving s) (hf : s.radio.rxSlot = some f) :
    fetch s = .frame f := by
  rcases hq with hq | hq | hq <;> simp [fetch, hq, hf]

/-- Settles O8: the frame in RX_SLOT is what CTRL fetches, and executing it is receiving it. -/
theorem stepRunsReceivedFrame : Obligations.StepRunsReceivedFrame := by
  rintro s f i ⟨hf, hm⟩ hq hslot hd
  have hfetch : fetch s.takeMove = .frame f := fetch_of_receiving hq hslot
  rw [step_of_ctrl hf hm, ctrlStep_of_frame hfetch, exec_of_decodeFrame hd]

/-! ### The join's own steps (R273, R275, R277) -/

theorem fetch_of_joinTx {s : State} (hq : s.sequencer.seq = .joinTx) : fetch s = .phase := by
  simp [fetch, hq]

theorem fetch_of_joinWait_emptySlot {s : State} (hq : s.sequencer.seq = .joinWait) (hslot : s.radio.rxSlot = none) :
    fetch s = .phase := by
  simp [fetch, hq, hslot]

/-- With CTRL to move and nothing for it to take, the step is the phase's. -/
theorem step_of_phase {s : State} (hc : ctrlNext s) (h : fetch s.takeMove = .phase) : step s = phaseStep s.takeMove :=
  (step_of_ctrl hc.1 hc.2).trans (ctrlStep_of_phase h)

theorem phaseStep_joinTx_of_pending {s : State} (hq : s.sequencer.seq = .joinTx) (hp : s.radio.txPending = true) :
    phaseStep s = .next s := by
  simp [phaseStep, hq, hp]

/-- At TX_DONE the join's budget starts and the radio listens on RX1 (R273). -/
theorem phaseStep_joinTx_of_txDone {s : State} (hq : s.sequencer.seq = .joinTx) (hp : s.radio.txPending = false)
    (hr : s.status.radioReady = true) : phaseStep s = .next
      { modeSet (.rxcont (.down s.settings.rxCh) s.settings.rxDr) s with
        sequencer.elapsed := 0#32
        sequencer.tEnd := 6000#32
        sequencer.seq := .joinWait } := by
  have hphase : phaseStep s = conclude opJoin s (joinTxDone s) := by simp [phaseStep, hq, hp]
  rw [hphase, joinTxDone_eq_ok.2 ⟨hr, rfl⟩]
  rfl

theorem phaseStep_joinWait_of_lt {s : State} (hq : s.sequencer.seq = .joinWait)
    (hlt : s.sequencer.elapsed.toNat < s.sequencer.tEnd.toNat) : phaseStep s = .next s := by
  simp [phaseStep, hq, BitVec.le_def, Nat.not_le.2 hlt]

/-- At the deadline the join ends with false (R275, R277). -/
theorem phaseStep_joinWait_of_le {s : State} (hq : s.sequencer.seq = .joinWait)
    (hle : s.sequencer.tEnd.toNat ≤ s.sequencer.elapsed.toNat) (hr : s.status.radioReady = true) :
    phaseStep s = .next (answered [0x00#8, 0x00#8]
      { modeSet .standby s with
        status.radioMode := .standby
        status.joinState := .joinTimeout
        status.cmd := .noCommand
        sequencer.seq := .idle }) := by
  have hphase : phaseStep s = conclude opJoin s (joinTimeout s) := by simp [phaseStep, hq, BitVec.le_def, hle]
  rw [hphase, joinTimeout_eq_ok.2 ⟨hr, rfl⟩]
  rfl

/-- Settles O34: in JOIN_TX CTRL takes no frame, and in JOIN_WAIT there is none to take, so each step is the phase's
own, and taking the move touches nothing it looks at. -/
theorem joinPhasesFollowTheTimer : Obligations.JoinPhasesFollowTheTimer := by
  intro s hc hr
  refine ⟨fun hq hp => ?_, fun hq hp => ?_, fun hq hslot hlt => ?_, fun hq hslot hle => ?_⟩
  · exact (step_of_phase hc (fetch_of_joinTx hq)).trans (phaseStep_joinTx_of_pending hq hp)
  · exact (step_of_phase hc (fetch_of_joinTx hq)).trans (phaseStep_joinTx_of_txDone hq hp hr)
  · exact (step_of_phase hc (fetch_of_joinWait_emptySlot hq hslot)).trans (phaseStep_joinWait_of_lt hq hlt)
  · exact (step_of_phase hc (fetch_of_joinWait_emptySlot hq hslot)).trans (phaseStep_joinWait_of_le hq hle hr)

/-! ### A join wait that nothing answers (R278, R534) -/

/-- `s` after `n` listed CLOCK steps of a wait phase, `rest` being the moves listed behind them. -/
def ticked (n : Nat) (rest : List Config.Move) (s : State) : State :=
  { s with
    sequencer.elapsed := BitVec.ofNat 32 (s.sequencer.elapsed.toNat + n)
    schedule.agenda := rest
    schedule.moves := s.schedule.moves + n }

/-- The CLOCK steps left to a deadline bring ELAPSED to it. -/
theorem elapsed_ticked_left {s : State} (h : s.sequencer.elapsed.toNat ≤ s.sequencer.tEnd.toNat)
    (rest : List Config.Move) :
    (ticked (s.sequencer.tEnd.toNat - s.sequencer.elapsed.toNat) rest s).sequencer.elapsed = s.sequencer.tEnd := by
  simp only [ticked, Nat.add_sub_cancel' h, BitVec.ofNat_toNat, BitVec.setWidth_eq]

/-- Settles O37: the CLOCK steps bring ELAPSED to T_END, where CTRL's step is the timeout. -/
theorem joinWaitEndsByTheClock : Obligations.JoinWaitEndsByTheClock := by
  intro s rest hf hq hslot hr hle left ha
  have hclock : runSteps left s = .next (ticked left (Config.Move.ctrl :: rest) s) :=
    runSteps_ticks _ hf (by rw [hq]; rfl) ha (by omega)
  have hdue : s.sequencer.tEnd.toNat ≤ (ticked left (Config.Move.ctrl :: rest) s).sequencer.elapsed.toNat :=
    (congrArg BitVec.toNat (elapsed_ticked_left hle _)).ge
  obtain ⟨-, -, -, htimeout⟩ := joinPhasesFollowTheTimer (ticked left (Config.Move.ctrl :: rest) s) ⟨hf, rfl⟩ hr
  have hrun := (runSteps_add hclock).trans (runSteps_one (htimeout hq hslot hdue))
  exact ⟨_, hrun, rfl, rfl, rfl, rfl, rfl, rfl, rfl⟩

end Sys2Proof.Machine
end

section
/-! The receive-window setters (O22) and the slot that SEND_UPLINK and SEND_ACK queue (O32). -/

namespace Sys2Proof.Machine

open Sys2Proof.Claims

/-! ### The windows (R320 to R323) -/

theorem maxU32_eq_ofNat (a b : U32) : maxU32 a b = BitVec.ofNat 32 (max a.toNat b.toNat) := by
  rw [← toNat_maxU32, BitVec.ofNat_toNat, BitVec.setWidth_eq]

/-- The clamp on numbers: RX2_DELAY is raised to RX1's saturated close time where it is lower. -/
theorem State.clampRx2_eq (s : State) : s.clampRx2 =
    { s with settings.rx2Delay :=
        BitVec.ofNat 32 (max s.settings.rx2Delay.toNat (satSum s.settings.rx1Delay s.settings.rx1Window)) } := by
  rw [State.clampRx2, maxU32_eq_ofNat, rx1Close, toNat_sat32]

/-- Settles O22: three of the setters end with the clamp, over the operand just stored; SET_RX2_WINDOW has none. -/
theorem windowSettersClampRx2 : Obligations.WindowSettersClampRx2 := by
  intro v s d1 w1 d2
  have hclamp (t : State) := congrArg (State.respond [0x00#8]) t.clampRx2_eq
  exact ⟨congrArg Host.Outcome.next (hclamp { s with settings.rx1Window := v }), rfl,
    congrArg Host.Outcome.next (hclamp { s with settings.rx1Delay := v }),
    congrArg Host.Outcome.next (hclamp { s with settings.rx2Delay := v })⟩

/-! ### The slot (R300, R301) -/

theorem bne_zero_eq_decide_toNat (b : Byte) : (b != 0#8) = decide (b.toNat ≠ 0) := by
  revert b
  decide

theorem exec_sendUplink_of_fits {payload : List Byte} (confirm port : Byte) (s : State)
    (h : payload.length ≤ Config.bufCap) : exec (.sendUplink confirm port payload) s = .next (answered [0x00#8]
      { s with
        buffers.txBuf := Memory.writeMany s.buffers.txBuf 0 payload
        buffers.txLen := BitVec.ofNat 8 payload.length
        settings.confirm := decide (confirm.toNat ≠ 0)
        settings.mport := port
        status.cmd := .uplink }) := by
  rw [exec, execSendUplink, if_neg (Nat.not_lt.2 h), queueUplink_eq_ok.2 ⟨h, rfl⟩, bne_zero_eq_decide_toNat]
  rfl

theorem exec_sendUplink_of_too_long {payload : List Byte} (confirm port : Byte) (s : State)
    (h : Config.bufCap < payload.length) :
    exec (.sendUplink confirm port payload) s = .next (answered [0x00#8] s) := by
  rw [exec, execSendUplink, if_pos h]
  rfl

/-- Settles O32: the write of the payload from index 0 on decides every byte of the new TXBUF. -/
theorem sendCommandsQueueOneSlot : Obligations.SendCommandsQueueOneSlot := by
  intro s
  refine ⟨fun confirm port payload hfit => ?_, fun confirm port payload hlong => ?_, rfl⟩
  · refine ⟨_, exec_sendUplink_of_fits confirm port s hfit, fun a ha => ?_, fun a ha => ?_⟩
    · simpa using Memory.read_writeMany_same s.buffers.txBuf (i := 0) payload ha
    · exact Memory.read_writeMany_other _ _ (.inr (by omega))
  · exact exec_sendUplink_of_too_long confirm port s hlong

end Sys2Proof.Machine
end

section
/-! Class C: the tick that arms and disarms it (O47) and the steps that enter it (O50). -/

namespace Sys2Proof.Machine

open Sys2Proof.Claims

/-! ### The tick (R302, R352 to R354) -/

theorem exec_update_of_tick {s t : State} (hc : s.status.cmd = .noCommand) (h : classTick s = .ok t) :
    exec .update s = .next t := by
  have hstep : updateStep s = classTick s := by simp only [updateStep, hc]
  rw [exec, execUpdate, hstep, h, conclude_ok]

/-- Where Class A is wanted, the tick is the disarming and the response. -/
theorem exec_update_of_disarmTick {s u : State} (hc : s.status.cmd = .noCommand) (hq : s.settings.classReq = .a)
    (hu : disarmTick s = .ok u) : exec .update s = .next (answered [0x00#8] u) :=
  exec_update_of_tick hc (classTick_eq_ok.2 (.inl ⟨hq, u, hu, rfl⟩))

/-- Where Class C is wanted and no frame waits once it is armed, the tick is the arming and the response. -/
theorem exec_update_of_armClassC {s u : State} (hc : s.status.cmd = .noCommand) (hq : s.settings.classReq = .c)
    (hu : armClassC s = .ok u) (hr : u.status.radioReady = true) (hslot : u.radio.rxSlot = none) :
    exec .update s = .next (answered [0x00#8] u) :=
  exec_update_of_tick hc
    (classTick_eq_ok.2 (.inr ⟨hq, u, u, hu, pollClassC_eq_ok.2 ⟨hr, .inl ⟨hslot, rfl⟩⟩, rfl⟩))

/-- Settles O47: the four pairs of CLASS_REQ and CLASS_CUR. -/
theorem tickArmsAndDisarmsClassC : Obligations.TickArmsAndDisarmsClassC := by
  intro s hc
  refine ⟨fun hq hcur => ?_, fun hq hcur hr => ?_, fun hq hcur hr hslot => ?_, fun hq hcur hr hslot => ?_⟩
  · exact exec_update_of_disarmTick hc hq (disarmTick_eq_ok.2 (.inl ⟨hcur, rfl⟩))
  · exact exec_update_of_disarmTick hc hq (disarmTick_eq_ok.2 (.inr ⟨hcur, hr, rfl⟩))
  · exact exec_update_of_armClassC hc hq (armClassC_eq_ok.2 (.inr ⟨hcur, hr, rfl⟩)) hr hslot
  · exact exec_update_of_armClassC hc hq (armClassC_eq_ok.2 (.inl ⟨hcur, rfl⟩)) hr hslot

/-! ### What enters Class C (R311, R351, R353) -/

/-- What R351 allows a step from `s` to `t` that leaves the device in Class C. -/
def ClassCOnRequest (s t : State) : Prop :=
  t.session.classCur = .c → s.settings.classReq = .c ∧ t.sequencer.seq = .idle ∧
    (windowOpen s ∨ (s.sequencer.seq = .idle ∧ s.port = some [0x3F#8]))

theorem ClassCOnRequest.of_classA {s t : State} (h : t.session.classCur = .a) : ClassCOnRequest s t :=
  fun hc => nomatch h.symm.trans hc

theorem MoveEffect.session {s t : State} (h : MoveEffect s t) : t.session = s.session := by
  cases h <;> rfl

theorem TickEffect.classCur {s t : State} (h : TickEffect s t) :
    t.session.classCur = .a ∨ s.settings.classReq = .c := by
  cases h with
  | nothing _ hcur => exact .inl hcur
  | disarm => exact .inl rfl
  | armed _ hq | noMessage _ _ hq | header _ _ _ hq | message _ _ _ hq => exact .inr hq

/-- Of the commands that answer at once only the tick arms Class C. -/
theorem CommandEffect.classCur {i : Instr} {s t : State} (h : CommandEffect s i t) (ha : s.session.classCur = .a) :
    t.session.classCur = .a ∨ i = .update ∧ s.settings.classReq = .c := by
  cases h with
  | tick t _ ht => exact ht.classCur.imp_right fun hq => ⟨rfl, hq⟩
  | initialised seed => exact .inl rfl
  | mode m i => exact .inl rfl
  | _ => exact .inl (by simpa using ha)

/-- A command's run stays in Class A, or is a tick that arms Class C and stays in its phase. -/
theorem CommandRun.classCur {i : Instr} {s t : State} (h : CommandRun s i t) (ha : s.session.classCur = .a) :
    t.session.classCur = .a ∨ i = .update ∧ s.settings.classReq = .c ∧ t.sequencer.seq = s.sequencer.seq := by
  cases h with
  | answered i u b he =>
    exact (he.classCur ha).imp_right fun ⟨hi, hq⟩ => ⟨hi, hq, he.keeps.2.seq⟩
  | joinStarted => exact .inl (by simp)
  | cycleStarted kind p u _ _ _ hu => exact .inl (by simp [hu])

theorem ResultEffect.classCur {d : DataDownInfo} {s t : State} (h : ResultEffect d s t) :
    t.session.classCur = s.session.classCur := by
  cases h <;> simp

/-- CYCLE_END arms Class C only where it is wanted (R311). -/
theorem cycleEnd_classCur {s t : State} (h : cycleEnd s = .ok t) (ha : s.session.classCur = .a) :
    t.session.classCur = .a ∨ s.settings.classReq = .c ∧ t.sequencer.seq = .idle := by
  obtain ⟨-, ⟨-, rfl⟩ | ⟨hq, rfl⟩⟩ := cycleEnd_eq_ok.1 h
  · exact .inl ha
  · exact .inr ⟨hq, rfl⟩

/-- A frame taken in a window is no message, or ends the cycle. -/
theorem cycleFrame_classCur {f : List Byte} {s t : State} (h : cycleFrame f s = .ok t) (ha : s.session.classCur = .a) :
    t.session.classCur = .a ∨ s.settings.classReq = .c ∧ t.sequencer.seq = .idle := by
  obtain ⟨-, ⟨-, rfl⟩ | ⟨d, u, -, hu, ht⟩⟩ := cycleFrame_eq_ok.1 h
  · exact .inl ha
  · have hres := resultA_effect hu
    have hset : u.settings = s.settings := hres.keepsSetup.settings
    exact hset ▸ cycleEnd_classCur ht (hres.classCur.trans ha)

theorem joinFrame_classCur {f : List Byte} {s t : State} (h : joinFrame f s = .ok t) :
    t.session.classCur = s.session.classCur := by
  obtain ⟨-, ⟨-, rfl⟩ | ⟨r, -, hend⟩⟩ := joinFrame_eq_ok.1 h
  · rfl
  · obtain ⟨-, rfl⟩ := joinEnd_eq_ok.1 hend
    rfl

/-- A concluded action is as good as what it did, since a fault leaves the class. -/
theorem ClassCOnRequest.of_conclude {op : Byte} {s t : State} {r : Except ModelFault State}
    (h : conclude op s r = .next t) (ha : s.session.classCur = .a) (hr : r = .ok t → ClassCOnRequest s t) :
    ClassCOnRequest s t := by
  rcases conclude_eq_next.1 h with ho | ⟨k, -, rfl⟩
  · exact hr ho
  · exact .of_classA ha

/-- In an open window the end of the cycle is allowed to arm Class C. -/
theorem ClassCOnRequest.of_window {s t : State} (hw : windowOpen s)
    (h : t.session.classCur = .a ∨ s.settings.classReq = .c ∧ t.sequencer.seq = .idle) : ClassCOnRequest s t := by
  rcases h with ha | ⟨hq, hidle⟩
  · exact .of_classA ha
  · exact fun _ => ⟨hq, hidle, .inl hw⟩

/-- Of the phases' own steps only the close of RX2 writes CLASS_CUR. -/
theorem phaseStep_classCOnRequest {s t : State} (h : phaseStep s = .next t) (ha : s.session.classCur = .a) :
    ClassCOnRequest s t := by
  rcases phaseStep_cases h with rfl | ⟨-, -, hx⟩ | ⟨-, -, hx⟩ | ⟨-, -, rfl⟩ | ⟨-, -, hx⟩ | ⟨-, -, hx⟩ | ⟨-, -, hx⟩ |
    ⟨hq, -, hx⟩
  · exact .of_classA ha
  · exact .of_conclude hx ha fun ho => .of_classA ((joinTxDone_eq_ok.1 ho).2 ▸ ha)
  · exact .of_conclude hx ha fun ho => .of_classA ((joinTimeout_eq_ok.1 ho).2 ▸ ha)
  · exact .of_classA ha
  · exact .of_conclude hx ha fun ho => .of_classA ((openRx1_eq_ok.1 ho).2 ▸ ha)
  · exact .of_conclude hx ha fun ho => .of_classA ((closeRx1_eq_ok.1 ho).2 ▸ ha)
  · exact .of_conclude hx ha fun ho => .of_classA ((openRx2_eq_ok.1 ho).2 ▸ ha)
  · exact .of_conclude hx ha fun ho => .of_window (.inr hq) (cycleEnd_classCur ho ha)

theorem ctrlStep_classCOnRequest {s t : State} (h : ctrlStep s = .next t) (ha : s.session.classCur = .a) :
    ClassCOnRequest s t := by
  rcases ctrlStep_cases h with ⟨rec, i, hq, hp, hd, hx⟩ | ⟨rec, r, -, -, -, rfl⟩ | ⟨f, -, ⟨-, hx⟩ | ⟨hw, hx⟩⟩ | hx
  · rcases exec_run (isCommand_of_decodeRecord hd) hx with ⟨k, op, rfl⟩ | hr
    · exact .of_classA ha
    · rcases hr.classCur ha with hcur | ⟨rfl, hreq, hseq⟩
      · exact .of_classA hcur
      · obtain rfl := encode_of_decodeRecord hd
        exact fun _ => ⟨hreq, hseq.trans hq, .inr ⟨hq, hp⟩⟩
  · exact .of_classA ha
  · exact .of_conclude hx ha fun ho => .of_classA ((joinFrame_classCur ho).trans ha)
  · exact .of_conclude hx ha fun ho => .of_window hw (cycleFrame_classCur ho ha)
  · exact phaseStep_classCOnRequest hx ha

/-- Settles O50: HOST, RADIO and CLOCK leave the session, and CTRL's step is one that R351 allows. -/
theorem classCEnteredOnlyOnRequest : Obligations.ClassCEnteredOnlyOnRequest := by
  intro s t h ha hc
  rcases step_effect h with hm | ⟨⟨hf, hmove⟩, -⟩
  · have hcur : t.session.classCur = .a := hm.session ▸ ha
    exact (ClassCOnRequest.of_classA (s := s) hcur) hc
  · rw [step_of_ctrl hf hmove] at h
    exact ctrlStep_classCOnRequest (s := s.takeMove) h ha hc

end Sys2Proof.Machine
end

section
/-! The cycle over time: the phases' opening and closing times (O41) and the run of a cycle that no frame answers
(O42). -/

namespace Sys2Proof.Machine

open Sys2Proof.Claims

/-! ### What CTRL takes in a cycle (R520) -/

/-- Where the cycle waits for TX_DONE or for a window, no frame is taken, whatever RX_SLOT holds. -/
theorem fetch_of_cycleWait {s : State} (hq : s.sequencer.seq ∈ [Phase.cycTx, .cycWaitRx1, .cycWaitRx2]) :
    fetch s = .phase := by
  simp only [List.mem_cons, List.not_mem_nil, or_false] at hq
  rcases hq with hq | hq | hq <;> simp [fetch, hq]

theorem fetch_of_window_emptySlot {s : State} (hq : windowOpen s) (hslot : s.radio.rxSlot = none) :
    fetch s = .phase := by
  rcases hq with hq | hq <;> simp [fetch, hq, hslot]

/-! ### The step of each phase (R306 to R309, R311) -/

theorem phaseStep_cycTx {s : State} (hq : s.sequencer.seq = .cycTx) :
    phaseStep s = if s.radio.txPending = true then .next s else .next (cycleTxDone s) := by
  simp only [phaseStep, hq]

theorem phaseStep_cycWaitRx1 {s : State} (hq : s.sequencer.seq = .cycWaitRx1) :
    phaseStep s = if s.settings.rx1Delay.toNat ≤ s.sequencer.elapsed.toNat then conclude opUpdate s (openRx1 s)
      else .next s := by
  simp only [phaseStep, hq, BitVec.le_def]

theorem phaseStep_cycRx1 {s : State} (hq : s.sequencer.seq = .cycRx1) :
    phaseStep s = if s.sequencer.tEnd.toNat ≤ s.sequencer.elapsed.toNat then conclude opUpdate s (closeRx1 s)
      else .next s := by
  simp only [phaseStep, hq, BitVec.le_def]

theorem phaseStep_cycWaitRx2 {s : State} (hq : s.sequencer.seq = .cycWaitRx2) :
    phaseStep s = if s.settings.rx2Delay.toNat ≤ s.sequencer.elapsed.toNat then conclude opUpdate s (openRx2 s)
      else .next s := by
  simp only [phaseStep, hq, BitVec.le_def]

theorem phaseStep_cycRx2 {s : State} (hq : s.sequencer.seq = .cycRx2) :
    phaseStep s = if s.sequencer.tEnd.toNat ≤ s.sequencer.elapsed.toNat then conclude opUpdate s (cycleEnd s)
      else .next s := by
  simp only [phaseStep, hq, BitVec.le_def]

/-- RX1 opens, with its close time in T_END (R307). -/
theorem conclude_openRx1 {s : State} (hr : s.status.radioReady = true) : conclude opUpdate s (openRx1 s) = .next
    { modeSet (.rxcont (.down s.settings.rxCh) s.settings.rxDr) s with
      sequencer.tEnd := BitVec.ofNat 32 (satSum s.settings.rx1Delay s.settings.rx1Window)
      sequencer.seq := .cycRx1 } := by
  rw [openRx1_eq_ok.2 ⟨hr, rfl⟩, rx1Close, sat32_eq_ofNat]
  rfl

theorem conclude_closeRx1 {s : State} (hr : s.status.radioReady = true) : conclude opUpdate s (closeRx1 s) = .next
    { modeSet .standby s with sequencer.seq := .cycWaitRx2 } := by
  rw [closeRx1_eq_ok.2 ⟨hr, rfl⟩]
  rfl

/-- RX2 opens, with its close time in T_END (R309). -/
theorem conclude_openRx2 {s : State} (hr : s.status.radioReady = true) : conclude opUpdate s (openRx2 s) = .next
    { modeSet rx2Listen s with
      sequencer.tEnd := BitVec.ofNat 32 (satSum s.settings.rx2Delay s.settings.rx2Window)
      sequencer.seq := .cycRx2 } := by
  rw [openRx2_eq_ok.2 ⟨hr, rfl⟩, rx2Close, sat32_eq_ofNat]
  rfl

theorem conclude_cycleEnd_classA {s : State} (hr : s.status.radioReady = true) (hq : s.settings.classReq = .a) :
    conclude opUpdate s (cycleEnd s) = .next (answered [0x00#8]
      { modeSet .standby s with
        status.radioMode := .standby, status.cmd := .noCommand, sequencer.seq := .idle }) := by
  rw [cycleEnd_eq_ok.2 ⟨hr, .inl ⟨hq, rfl⟩⟩]
  rfl

theorem conclude_cycleEnd_classC {s : State} (hr : s.status.radioReady = true) (hq : s.settings.classReq = .c) :
    conclude opUpdate s (cycleEnd s) = .next (answered [0x00#8]
      { modeSet rx2Listen s with
        status.radioMode := rx2Listen, status.cmd := .noCommand, session.classCur := .c, sequencer.seq := .idle }) := by
  rw [cycleEnd_eq_ok.2 ⟨hr, .inr ⟨hq, rfl⟩⟩]
  rfl

/-- Settles O41: CTRL takes no frame in CYC_TX and the waits, and there is none to take in the windows, so each step is
the phase's own, and taking the move touches nothing it looks at. -/
theorem cyclePhasesFollowTheTimer : Obligations.CyclePhasesFollowTheTimer := by
  intro s hc hr x
  refine ⟨fun hq => ?_, fun hq => ?_, fun hq hslot => ?_, fun hq => ?_, fun hq hslot => ?_⟩
  · have hstep := (step_of_phase hc (fetch_of_cycleWait (by simp [hq]))).trans (phaseStep_cycTx hq)
    exact ⟨fun hp => hstep.trans (if_pos hp), fun hp => hstep.trans (if_neg (Bool.eq_false_iff.1 hp))⟩
  · have hstep := (step_of_phase hc (fetch_of_cycleWait (by simp [hq]))).trans (phaseStep_cycWaitRx1 hq)
    exact ⟨fun hlt => hstep.trans (if_neg (Nat.not_le.2 hlt)),
      fun hle => (hstep.trans (if_pos hle)).trans (conclude_openRx1 hr)⟩
  · have hstep := (step_of_phase hc (fetch_of_window_emptySlot (.inl hq) hslot)).trans (phaseStep_cycRx1 hq)
    exact ⟨fun hlt => hstep.trans (if_neg (Nat.not_le.2 hlt)),
      fun hle => (hstep.trans (if_pos hle)).trans (conclude_closeRx1 hr)⟩
  · have hstep := (step_of_phase hc (fetch_of_cycleWait (by simp [hq]))).trans (phaseStep_cycWaitRx2 hq)
    exact ⟨fun hlt => hstep.trans (if_neg (Nat.not_le.2 hlt)),
      fun hle => (hstep.trans (if_pos hle)).trans (conclude_openRx2 hr)⟩
  · have hstep := (step_of_phase hc (fetch_of_window_emptySlot (.inr hq) hslot)).trans (phaseStep_cycRx2 hq)
    exact ⟨fun hlt => hstep.trans (if_neg (Nat.not_le.2 hlt)),
      fun hle ha => (hstep.trans (if_pos hle)).trans (conclude_cycleEnd_classA hr ha),
      fun hle hcl => (hstep.trans (if_pos hle)).trans (conclude_cycleEnd_classC hr hcl)⟩

/-! ### A cycle that no frame answers (R312, R313) -/

/-- `u` is reached from `s` within a cycle that no frame answers: it is in phase `q` with `e` milliseconds elapsed and
`tEnd` in T_END, the `modes` were commanded since `s`, and the `moves` are listed next. -/
structure UnansweredAt (s : State) (q : Phase) (tEnd e : Nat) (modes : List RadioMode) (moves : List Config.Move)
    (u : State) : Prop where
  seq : u.sequencer.seq = q
  tEnd : u.sequencer.tEnd.toNat = tEnd
  elapsed : u.sequencer.elapsed.toNat = e
  slot : u.radio.rxSlot = none
  agenda : u.schedule.agenda = moves
  faults : u.faults = s.faults
  session : u.session = s.session
  settings : u.settings = s.settings
  buffers : u.buffers = s.buffers
  radioReady : u.status.radioReady = s.status.radioReady
  ackLatch : u.status.ackLatch = s.status.ackLatch
  rxLatch : u.status.rxLatch = s.status.rxLatch
  observed : u.observed = { s.observed with modeLog := s.observed.modeLog ++ modes }

section

variable {s u : State} {q : Phase} {tEnd e n c : Nat} {modes : List RadioMode} {moves : List Config.Move}

theorem slotAfterMode_eq_none (h : s.radio.rxSlot = none) : slotAfterMode s = none := by
  rw [slotAfterMode, h, ite_self]

theorem UnansweredAt.start (hq : s.sequencer.seq = q) (he : s.sequencer.elapsed.toNat = e)
    (hslot : s.radio.rxSlot = none) (ha : s.schedule.agenda = moves) :
    UnansweredAt s q s.sequencer.tEnd.toNat e [] moves s where
  seq := hq
  tEnd := rfl
  elapsed := he
  slot := hslot
  agenda := ha
  faults := rfl
  session := rfl
  settings := rfl
  buffers := rfl
  radioReady := rfl
  ackLatch := rfl
  rxLatch := rfl
  observed := by rw [List.append_nil]

theorem UnansweredAt.ctrlNext (h : UnansweredAt s q tEnd e modes (Config.Move.ctrl :: moves) u)
    (hf : s.faultFree) : ctrlNext u :=
  ⟨h.faults.trans hf, by simp only [State.nextMove, h.agenda]⟩

/-- CLOCK's steps only add to ELAPSED. -/
theorem UnansweredAt.ticked (h : UnansweredAt s q tEnd e modes (ticks n ++ moves) u) (hlt : e + n < 2 ^ 32) :
    UnansweredAt s q tEnd (e + n) modes moves (ticked n moves u) :=
  { h with
    agenda := rfl
    elapsed := by simp only [Machine.ticked, h.elapsed, BitVec.toNat_ofNat, Nat.mod_eq_of_lt hlt] }

/-- CTRL's step that commands a mode and goes on to another phase. -/
theorem UnansweredAt.modeSet (h : UnansweredAt s q tEnd e modes (Config.Move.ctrl :: moves) u) (m : RadioMode)
    (q' : Phase) (c : U32) : UnansweredAt s q' c.toNat e (modes ++ [m]) moves
      { modeSet m u.takeMove with sequencer.tEnd := c, sequencer.seq := q' } :=
  { h with
    seq := rfl
    tEnd := rfl
    slot := slotAfterMode_eq_none h.slot
    agenda := congrArg List.tail h.agenda
    observed := by simp [h.observed] }

/-- A leg of the cycle: CLOCK's steps up to the time `c`, and CTRL's step there. -/
theorem UnansweredAt.runSteps_leg {R : State → Prop} (hf : s.faultFree)
    (h : UnansweredAt s q tEnd e modes (ticks (c - e) ++ Config.Move.ctrl :: moves) u) (ht : q.timed = true)
    (hle : e ≤ c) (hlt : c < 2 ^ 32)
    (hctrl : ∀ v, UnansweredAt s q tEnd c modes (Config.Move.ctrl :: moves) v → ∃ w, step v = .next w ∧ R w) :
    ∃ w, runSteps (c - e + 1) u = .next w ∧ R w := by
  have hsum : e + (c - e) = c := Nat.add_sub_of_le hle
  have hdue := h.ticked (hsum.trans_lt hlt)
  rw [hsum] at hdue
  obtain ⟨w, hstep, hw⟩ := hctrl _ hdue
  have hclock : runSteps (c - e) u = .next (Machine.ticked (c - e) (Config.Move.ctrl :: moves) u) :=
    runSteps_ticks _ (h.faults.trans hf) (h.seq ▸ ht) h.agenda (by rw [h.elapsed, hsum]; exact hlt)
  exact ⟨w, (runSteps_add hclock).trans (runSteps_one hstep), hw⟩

theorem toNat_ofNat_satSum (a b : U32) : (BitVec.ofNat 32 (satSum a b)).toNat = satSum a b := by
  rw [← sat32_eq_ofNat, toNat_sat32]

theorem UnansweredAt.opensRx1 (hf : s.faultFree) (hr : s.status.radioReady = true)
    (h : UnansweredAt s .cycWaitRx1 tEnd e modes (Config.Move.ctrl :: moves) u)
    (hle : s.settings.rx1Delay.toNat ≤ e) : ∃ w, step u = .next w ∧
      UnansweredAt s .cycRx1 (satSum s.settings.rx1Delay s.settings.rx1Window) e
        (modes ++ [.rxcont (.down s.settings.rxCh) s.settings.rxDr]) moves w := by
  obtain ⟨-, hopen, -⟩ := cyclePhasesFollowTheTimer u (h.ctrlNext hf) (h.radioReady.trans hr)
  refine ⟨_, (hopen h.seq).2 (by rwa [h.settings, h.elapsed]), ?_⟩
  rw [← toNat_ofNat_satSum, h.settings]
  exact h.modeSet _ .cycRx1 _

theorem UnansweredAt.closesRx1 (hf : s.faultFree) (hr : s.status.radioReady = true)
    (h : UnansweredAt s .cycRx1 tEnd e modes (Config.Move.ctrl :: moves) u) (hle : tEnd ≤ e) :
    ∃ w, step u = .next w ∧ UnansweredAt s .cycWaitRx2 tEnd e (modes ++ [.standby]) moves w := by
  obtain ⟨-, -, hclose, -⟩ := cyclePhasesFollowTheTimer u (h.ctrlNext hf) (h.radioReady.trans hr)
  refine ⟨_, (hclose h.seq h.slot).2 (by rwa [h.tEnd, h.elapsed]), ?_⟩
  rw [← h.tEnd]
  exact h.modeSet .standby .cycWaitRx2 u.sequencer.tEnd

theorem UnansweredAt.opensRx2 (hf : s.faultFree) (hr : s.status.radioReady = true)
    (h : UnansweredAt s .cycWaitRx2 tEnd e modes (Config.Move.ctrl :: moves) u)
    (hle : s.settings.rx2Delay.toNat ≤ e) : ∃ w, step u = .next w ∧
      UnansweredAt s .cycRx2 (satSum s.settings.rx2Delay s.settings.rx2Window) e (modes ++ [rx2Listen]) moves w := by
  obtain ⟨-, -, -, hopen, -⟩ := cyclePhasesFollowTheTimer u (h.ctrlNext hf) (h.radioReady.trans hr)
  refine ⟨_, (hopen h.seq).2 (by rwa [h.settings, h.elapsed]), ?_⟩
  rw [← toNat_ofNat_satSum, h.settings]
  exact h.modeSet rx2Listen .cycRx2 _

/-- RX2 closes as RX1 does, and CYCLE_END clears CMD and answers. -/
theorem UnansweredAt.closesRx2 (hf : s.faultFree) (hr : s.status.radioReady = true) (ha : s.settings.classReq = .a)
    (h : UnansweredAt s .cycRx2 tEnd e modes (Config.Move.ctrl :: moves) u) (hle : tEnd ≤ e) :
    ∃ t, step u = .next t ∧ ∃ w, t = answered [0x00#8] { w with status.cmd := .noCommand } ∧
      UnansweredAt s .idle tEnd e (modes ++ [.standby]) moves w := by
  obtain ⟨-, -, -, -, hclose⟩ := cyclePhasesFollowTheTimer u (h.ctrlNext hf) (h.radioReady.trans hr)
  obtain ⟨-, hend, -⟩ := hclose h.seq h.slot
  have hstep := hend (by rwa [h.tEnd, h.elapsed]) (h.settings ▸ ha)
  have hidle := h.modeSet .standby .idle u.sequencer.tEnd
  rw [h.tEnd] at hidle
  exact ⟨_, hstep, _, rfl, hidle⟩

end

/-- Settles O42: four legs, each of CLOCK's steps up to the next time of the cycle and CTRL's step there; the window
invariant puts RX1's close time before RX2's opening. -/
theorem unansweredCycleTimeline : Obligations.UnansweredCycleTimeline := by
  intro s rest hf hinv hq he hslot hr ha d1 c1 d2 c2 hagenda
  have hd1 : d1 ≤ c1 := by simp only [d1, c1, satSum]; omega
  have hc1 : c1 ≤ d2 := hinv
  have hd2 : d2 ≤ c2 := by simp only [d2, c2, satSum]; omega
  have hc2 : c2 < 2 ^ 32 := by simp only [c2, satSum]; omega
  have h0 : UnansweredAt s .cycWaitRx1 s.sequencer.tEnd.toNat 0 [] _ s :=
    .start hq (congrArg BitVec.toNat he) hslot hagenda
  obtain ⟨u1, hrun1, h1⟩ := h0.runSteps_leg (c := d1) hf rfl (Nat.zero_le _) (by omega)
    fun _ hv => hv.opensRx1 hf hr le_rfl
  obtain ⟨u2, hrun2, h2⟩ := h1.runSteps_leg hf rfl hd1 (by omega) fun _ hv => hv.closesRx1 hf hr le_rfl
  obtain ⟨u3, hrun3, h3⟩ := h2.runSteps_leg hf rfl hc1 (by omega) fun _ hv => hv.opensRx2 hf hr le_rfl
  obtain ⟨t, hrun4, w, rfl, h4⟩ := h3.runSteps_leg hf rfl hd2 hc2 fun _ hv => hv.closesRx2 hf hr ha le_rfl
  have hlegs : c2 + 4 = (d1 - 0 + 1) + ((c1 - d1 + 1) + ((d2 - c1 + 1) + (c2 - d2 + 1))) := by omega
  have hrun : runSteps (c2 + 4) s = .next (answered [0x00#8] { w with status.cmd := .noCommand }) := by
    rw [hlegs, runSteps_add hrun1, runSteps_add hrun2, runSteps_add hrun3, hrun4]
  refine ⟨_, hrun, h4.seq, rfl, h4.session, h4.settings, h4.buffers, h4.ackLatch, h4.rxLatch, ?_, ?_, h4.agenda⟩
  · simp [h4.observed]
  · simp [h4.observed, rx2Listen]

end Sys2Proof.Machine
end

section
/-! Class C: the invariant of continuous receive on RX2 (O49), the frame a tick dispatches (O48) and the request of a
class (O24). -/

namespace Sys2Proof.Machine

open Sys2Proof.Claims

/-! ### The Class C invariant (R356) -/

theorem State.classInv_of_classA {s : State} (h : s.session.classCur = .a) : s.classInv :=
  fun hc => nomatch h.symm.trans hc

/-- The Class C invariant speaks of three registers only. -/
theorem State.classInv_of_eq {s t : State} (hcur : t.session.classCur = s.session.classCur)
    (hseq : t.sequencer.seq = s.sequencer.seq) (hmode : t.status.radioMode = s.status.radioMode) (h : s.classInv) :
    t.classInv := by
  unfold State.classInv
  rwa [hcur, hseq, hmode]

/-- A device outside IDLE is in Class A. -/
theorem State.classInv.classA {s : State} (h : s.classInv) (hq : s.sequencer.seq ≠ .idle) :
    s.session.classCur = .a := by
  cases hc : s.session.classCur
  · rfl
  · exact absurd (h hc).1 hq

theorem MoveEffect.classInv {s t : State} (h : MoveEffect s t) (hs : s.classInv) : t.classInv := by
  cases h with
  | passed | offered | txDone | delivered | ticked => exact hs

theorem Armed.classInv {s t : State} (h : Armed s t) (hq : s.sequencer.seq = .idle) (hs : s.classInv) :
    t.classInv := by
  cases h with
  | before => exact hs
  | now => exact fun _ => ⟨hq, rfl⟩

/-- The poll writes none of the invariant's registers. -/
theorem TickEffect.classInv {s t : State} (h : TickEffect s t) (hq : s.sequencer.seq = .idle) (hs : s.classInv) :
    t.classInv := by
  cases h with
  | nothing => exact hs
  | disarm => exact State.classInv_of_classA rfl
  | armed u _ ha => exact ha.classInv hq hs
  | noMessage u f _ ha => exact State.classInv_of_eq rfl rfl rfl (ha.classInv hq hs)
  | header u f d _ ha => exact State.classInv_of_eq (by simp) (by simp) (by simp) (ha.classInv hq hs)
  | message u f d _ ha => exact State.classInv_of_eq (by simp) (by simp) (by simp) (ha.classInv hq hs)

/-- A command that commands the radio is the tick, or leaves Class C. -/
theorem CommandEffect.classInv {i : Instr} {s t : State} (h : CommandEffect s i t) (hq : s.sequencer.seq = .idle)
    (hs : s.classInv) : t.classInv := by
  cases h with
  | tick t _ ht => exact ht.classInv hq hs
  | initialised seed => exact State.classInv_of_classA rfl
  | mode m i => exact State.classInv_of_classA rfl
  | _ => exact State.classInv_of_eq (by simp) (by simp) (by simp) hs

/-- JOIN and a cycle suspend Class C before they transmit (R271, R304). -/
theorem CommandRun.classInv {i : Instr} {s t : State} (h : CommandRun s i t) (hq : s.sequencer.seq = .idle)
    (hs : s.classInv) : t.classInv := by
  cases h with
  | answered i u b he => exact State.classInv_of_eq rfl rfl rfl (he.classInv hq hs)
  | joinStarted => exact State.classInv_of_classA (by simp)
  | cycleStarted kind p u _ _ _ hu => exact State.classInv_of_classA (by simp [hu])

theorem CycleEnded.classInv {s t : State} (h : CycleEnded s t) (ha : s.session.classCur = .a) : t.classInv := by
  cases h with
  | standby => exact State.classInv_of_classA ha
  | armed => exact fun _ => ⟨rfl, rfl⟩

theorem FrameEffect.classInv {f : List Byte} {s t : State} (h : FrameEffect f s t) (ha : s.session.classCur = .a) :
    t.classInv := by
  cases h with
  | noMessage | joined => exact State.classInv_of_classA ha
  | received d u t _ hu ht => exact ht.classInv (hu.classCur.trans ha)

theorem PhaseEffect.classInv {s t : State} (h : PhaseEffect s t) (ha : s.session.classCur = .a) : t.classInv := by
  cases h with
  | joinTxDone | joinTimeout | cycleTxDone | openRx1 | closeRx1 | openRx2 => exact State.classInv_of_classA ha
  | cycleEnd t _ ht => exact ht.classInv ha

/-- Frames and phases start outside IDLE, so in Class A. -/
theorem CtrlEffect.classInv {s t : State} (h : CtrlEffect s t) (hs : s.classInv) : t.classInv := by
  cases h with
  | waits | faulted | rejected => exact hs
  | command rec i t hq _ _ hr => exact hr.classInv hq hs
  | frame f t hq _ he => exact he.classInv (hs.classA hq)
  | phase t hq he => exact he.classInv (hs.classA hq)

/-- Settles O49: by the effects of a step; Class C is entered only with the radio on RX2 in IDLE, and left before
anything else is commanded. -/
theorem classCInvariantKeptByEveryStep : Obligations.ClassCInvariantKeptByEveryStep := by
  intro s t hinv h
  have hs : s.takeMove.classInv := hinv
  rcases step_effect h with hm | ⟨-, he⟩
  · exact hm.classInv hs
  · exact he.classInv hs

/-! ### The arming (R353) -/

theorem armClassC_eq_classCArmed {s : State} (hr : s.status.radioReady = true) :
    armClassC s = .ok (classCArmed s) := by
  cases hc : s.session.classCur with
  | a => exact armClassC_eq_ok.2 (.inr ⟨hc, hr, if_neg (by simp [hc])⟩)
  | c => exact armClassC_eq_ok.2 (.inl ⟨hc, if_pos hc⟩)

/-- Arming writes CLASS_CUR and the radio only. -/
theorem classCArmed_buffers (s : State) : (classCArmed s).buffers = s.buffers := by
  unfold classCArmed
  split <;> rfl

theorem classCArmed_fcntRx (s : State) : (classCArmed s).session.fcntRx = s.session.fcntRx := by
  unfold classCArmed
  split <;> rfl

theorem classCArmed_ackLatch (s : State) : (classCArmed s).status.ackLatch = s.status.ackLatch := by
  unfold classCArmed
  split <;> rfl

theorem classCArmed_cbEn (s : State) : (classCArmed s).status.cbEn = s.status.cbEn := by
  unfold classCArmed
  split <;> rfl

theorem classCArmed_radioReady (s : State) : (classCArmed s).status.radioReady = s.status.radioReady := by
  unfold classCArmed
  split <;> rfl

theorem classCArmed_hostLog (s : State) : (classCArmed s).observed.hostLog = s.observed.hostLog := by
  unfold classCArmed
  split <;> rfl

theorem decodeDataDown_classCArmed (s : State) (f : List Byte) :
    decodeDataDown (classCArmed s) f = decodeDataDown s f := by
  unfold classCArmed
  split <;> rfl

/-- The radio chooses to empty RX_SLOT only where it is armed now (R353, R530). -/
theorem classCArmed_rxSlot (s : State) : (classCArmed s).radio.rxSlot =
    if s.session.classCur = .c ∨ Config.slotKept s.schedule.draws = true then s.radio.rxSlot else none := by
  unfold classCArmed
  by_cases hc : s.session.classCur = .c
  · rw [if_pos hc, if_pos (.inl hc)]
  · simp [hc]

/-! ### The poll (R354, R355) -/

/-- RESULT_C is RESULT, but that no data stays announced (R310, R355). -/
theorem resultC_of_resultA {r : DataDownInfo} {s t : State} (h : resultA r s = .ok t) :
    resultC (some r) s = .ok { t with buffers.rxLen := 0#8, status.rxLatch := false } := by
  rcases storePayload_eq_ok.1 h with ⟨hp, rfl⟩ | ⟨hp, hfit, rfl⟩
  · exact resultC_eq_ok.2 ⟨_, .inr ⟨r, rfl, dispatchPayload_eq_ok.2 (.inl ⟨hp, rfl⟩)⟩, rfl⟩
  · refine resultC_eq_ok.2 ⟨_, .inr ⟨r, rfl, dispatchPayload_eq_ok.2 (.inr ⟨hp, hfit, rfl⟩)⟩, ?_⟩
    simp only [State.emitMessage_eq]

/-- A tick in which Class C is wanted and a frame waits once it is armed: the result, and the response. -/
theorem exec_update_of_resultC {s t : State} {f : List Byte} (hc : s.status.cmd = .noCommand)
    (hq : s.settings.classReq = .c) (hr : s.status.radioReady = true) (hslot : (classCArmed s).radio.rxSlot = some f)
    (ht : resultC (decodeDataDown s f) ((classCArmed s).readSlot f) = .ok t) :
    exec .update s = .next (answered [0x00#8] t) := by
  have hready : (classCArmed s).status.radioReady = true := (classCArmed_radioReady s).trans hr
  rw [← decodeDataDown_classCArmed] at ht
  have hpoll : pollClassC (classCArmed s) = .ok t := pollClassC_eq_ok.2 ⟨hready, .inr ⟨f, hslot, ht⟩⟩
  exact exec_update_of_tick hc (classTick_eq_ok.2 (.inr ⟨hq, _, t, armClassC_eq_classCArmed hr, hpoll, rfl⟩))

/-- Settles O48: the tick arms; then it takes the frame where RX_SLOT still holds it, and is done where the radio
emptied it. -/
theorem classCDispatchesOneFramePerTick : Obligations.ClassCDispatchesOneFramePerTick := by
  intro s f hc hq hr hf u taken
  have hslot (ht : taken) : u.radio.rxSlot = some f := ((classCArmed_rxSlot s).trans (if_pos ht)).trans hf
  have hempty (ht : ¬ taken) : exec .update s = .next (answered [0x00#8] u) :=
    exec_update_of_armClassC hc hq (armClassC_eq_classCArmed hr) ((classCArmed_radioReady s).trans hr)
      ((classCArmed_rxSlot s).trans (if_neg ht))
  refine ⟨fun hd => ?_, fun r hd => ?_⟩
  · by_cases ht : taken
    · rw [if_pos ht]
      exact exec_update_of_resultC hc hq hr (hslot ht) (resultC_eq_ok.2 ⟨_, .inl ⟨hd, rfl⟩, rfl⟩)
    · rw [if_neg ht]
      exact hempty ht
  · intro ack event
    refine ⟨Memory.writeMany s.buffers.rxBuf 0 r.payload, ?_, fun a ha => ?_, fun a ha => ?_⟩
    · by_cases ht : taken
      · have hres := resultC_of_resultA (resultA_eq (payload_length_of_decodeDataDown hd) (u.readSlot f))
        rw [← hd] at hres
        rw [if_pos ht, exec_update_of_resultC hc hq hr (hslot ht) hres, ← classCArmed_fcntRx s,
          ← classCArmed_buffers s, ← classCArmed_ackLatch s, ← classCArmed_cbEn s, ← classCArmed_hostLog s]
        rfl
      · rw [if_neg ht]
        exact hempty ht
    · simpa using Memory.read_writeMany_same s.buffers.rxBuf (i := 0) r.payload ha
    · exact Memory.read_writeMany_other _ _ (.inr (by omega))

/-! ### SET_DEVICE_CLASS (R350) -/

theorem selectClass_of_zero {c : Byte} (h : c.toNat = 0) (s : State) :
    selectClass c s = { s with settings.classReq := .a } :=
  if_pos (BitVec.eq_of_toNat_eq h)

theorem selectClass_of_two {c : Byte} (h : c.toNat = 2) (s : State) :
    selectClass c s = { s with settings.classReq := .c } := by
  obtain rfl : c = 2#8 := BitVec.eq_of_toNat_eq h
  rfl

theorem selectClass_of_other {c : Byte} (h0 : c.toNat ≠ 0) (h2 : c.toNat ≠ 2) (s : State) : selectClass c s = s := by
  rw [selectClass, if_neg (ne_of_apply_ne BitVec.toNat h0), if_neg (ne_of_apply_ne BitVec.toNat h2)]

theorem exec_setDeviceClass (c : Byte) (s : State) :
    exec (.setDeviceClass c) s = .next (answered [0x00#8] (selectClass c s)) := rfl

/-- Settles O24: the code is 0, 2 or neither. -/
theorem setDeviceClassByCode : Obligations.SetDeviceClassByCode := by
  intro c s
  rw [exec_setDeviceClass]
  refine ⟨fun h0 => ?_, fun h2 => ?_, fun ⟨h0, h2⟩ => ?_⟩
  · rw [selectClass_of_zero h0]
  · rw [selectClass_of_two h2]
  · rw [selectClass_of_other h0 h2]

end Sys2Proof.Machine
end

section
/-! Channel and rate: the drawn channel of MULTI mode (O21), SET_CHANNEL (O18) and the stored and reported settings
(O20). -/

namespace Sys2Proof.Machine

open Sys2Proof.Claims

/-! ### The drawn channel (R80, R372 to R374) -/

theorem chCount_eq_three_or_eight : Config.chCount = 3 ∨ Config.chCount = 8 := by
  unfold Config.chCount Config.chCountPred
  cases Config.eightChannels
  · exact .inl rfl
  · exact .inr rfl

/-- RANDOM_CHANNEL's index stays below CH_COUNT in the three bits of TX_CH. -/
theorem toNat_draw_lt_chCount (p : U32) :
    (BitVec.ofNat 3 (Config.prngDraw p Config.chCountPred).1.val).toNat < Config.chCount := by
  rw [BitVec.toNat_ofNat]
  exact Nat.lt_of_le_of_lt (Nat.mod_le _ _) (Config.prngDraw p Config.chCountPred).1.isLt

theorem txChannel_of_multi {s : State} (hm : s.settings.chMode = .multi) :
    txChannel s = BitVec.ofNat 3 (Config.prngDraw s.status.prngState Config.chCountPred).1.val := by
  simp only [txChannel, hm]

theorem rxChannel_of_multi {s : State} (hm : s.settings.chMode = .multi) :
    rxChannel s = Config.rx1ChMap (txChannel s) := by
  simp only [rxChannel, hm]

/-- With an ack or an uplink that fits BUF_CAP pending, UPDATE is CYCLE_START of that kind, whose payload is read
(R302, R304). -/
theorem updateStep_eq_cycleStart {s : State}
    (h : s.status.cmd = .ack ∨ (s.status.cmd = .uplink ∧ s.buffers.txLen.toNat ≤ Config.bufCap)) :
    ∃ kind payload, updateStep s = cycleStart kind s ∧
      (kind = .uplink ∧ memRead s.buffers.txBuf 0 s.buffers.txLen.toNat = .ok payload ∨
        kind = .ack ∧ payload = []) := by
  rcases h with hack | ⟨hup, hfit⟩
  · exact ⟨.ack, [], updateStep_of_ack hack, .inr ⟨rfl, rfl⟩⟩
  · exact ⟨.uplink, _, updateStep_of_uplink hup, .inl ⟨rfl, memRead_eq_ok.2 ⟨by omega, rfl⟩⟩⟩

/-- Settles O21: the drawn channel is defined, so the transmission of JOIN, and of the cycle, goes out on it. -/
theorem hoppedChannelIsDefined : Obligations.HoppedChannelIsDefined := by
  intro s hm hr i hopped
  have hi : txChannel s = i := txChannel_of_multi hm
  have hrx : rxChannel s = Config.rx1ChMap i := (rxChannel_of_multi hm).trans (congrArg _ hi)
  have hv : Config.chValid (txChannel s) = true := hi ▸ chValid_of_draw s.status.prngState
  refine ⟨toNat_draw_lt_chCount _, chCount_eq_three_or_eight, ?_, fun hpending => ?_⟩
  · obtain ⟨-, hexec⟩ := joinTransmitsTheJoinRequest s hr hv
    exact ⟨_, _, hexec, rfl, congrArg _ hi, hi, hrx, hm, rfl⟩
  · obtain ⟨kind, payload, hstep, hpay⟩ := updateStep_eq_cycleStart hpending
    have hexec : exec .update s = conclude opUpdate s (cycleStart kind s) := congrArg (conclude opUpdate s) hstep
    rw [cycleStart_eq hr hv hpay, conclude_ok] at hexec
    exact ⟨_, _, hexec, rfl, congrArg _ hi, hi, hrx, hm, rfl⟩

/-! ### SET_CHANNEL (R371) -/

theorem selectChannel_of_le_seven {c : Byte} (h : c.toNat ≤ 7) (s : State) :
    selectChannel c s = { s with settings.chMode := .fixed }.setTxCh (BitVec.ofNat 3 c.toNat) :=
  if_pos h

theorem selectChannel_of_eight {c : Byte} (h : c.toNat = 8) (s : State) :
    selectChannel c s = { s with settings.chMode := .multi } := by
  obtain rfl : c = 8#8 := BitVec.eq_of_toNat_eq h
  rfl

theorem selectChannel_of_nine_le {c : Byte} (h : 9 ≤ c.toNat) (s : State) : selectChannel c s = s := by
  have hfixed : ¬ c ≤ 7#8 := by bv_omega
  have hmulti : c ≠ 8#8 := by bv_omega
  rw [selectChannel, if_neg hfixed, if_neg hmulti]

theorem exec_setChannel (c : Byte) (s : State) :
    exec (.setChannel c) s = .next (answered [0x00#8] (selectChannel c s)) := rfl

/-- Settles O18: the operand is a channel, the hopping code or neither. -/
theorem setChannelByRange : Obligations.SetChannelByRange := by
  intro c s
  rw [exec_setChannel]
  refine ⟨fun hfixed => ?_, fun hmulti => ?_, fun hother => ?_⟩
  · rw [selectChannel_of_le_seven hfixed]
    rfl
  · rw [selectChannel_of_eight hmulti]
  · rw [selectChannel_of_nine_le hother]

/-! ### The power, the callback and the getters (R377 to R379, R407) -/

theorem exec_registerOnMessage (e : Byte) (s : State) : exec (.registerOnMessage e) s =
    .next (answered [0x00#8] { s with status.cbEn := decide (e.toNat ≠ 0) }) := by
  rw [← bne_zero_eq_decide_toNat]
  rfl

/-- Settles O20: the power is one write and each getter one read, with a response; the callback tests its operand. -/
theorem powerAndCallbackStoredSettingsReported : Obligations.PowerAndCallbackStoredSettingsReported :=
  fun p s => ⟨rfl, exec_registerOnMessage p s, rfl, rfl⟩

end Sys2Proof.Machine
end

section
/-! The life cycle and the data path: INIT (O25), SLEEP and WAKEUP (O26), GET_RSSI (O27), READ_DATA (O30) and READ_ACK
(O31). -/

namespace Sys2Proof.Machine

open Sys2Proof.Claims

/-! ### INIT (R400, R501, R532) -/

theorem exec_init_of_true {s : State} (seed : U32) (h : Config.radioInitAnswer s.schedule.draws = true) :
    exec (.init seed) s = .next (answered [0x00#8, 0x01#8]
      (initialise seed { s with schedule.draws := s.schedule.draws + 1 })) := by
  rw [exec, execInit, radioInit, h]
  rfl

theorem exec_init_of_false {s : State} (seed : U32) (h : Config.radioInitAnswer s.schedule.draws = false) :
    exec (.init seed) s =
      .next (answered [0x00#8, 0x00#8] { s with schedule.draws := s.schedule.draws + 1 }) := by
  rw [exec, execInit, radioInit, h]
  rfl

/-- A successful INIT commands STANDBY; RADIO_READY and the seed do not touch what the radio's draw looks at. -/
theorem initialise_eq_modeSet (seed : U32) (s : State) : initialise seed s =
    { modeSet .standby s with
      status.radioMode := .standby
      status.radioReady := true
      status.prngState := Config.prngSeed seed
      session.classCur := .a } := rfl

/-- Settles O25: the radio's answer decides. -/
theorem initFollowsTheRadioAnswer : Obligations.InitFollowsTheRadioAnswer := by
  intro seed s s1
  cases hans : Config.radioInitAnswer s.schedule.draws with
  | true => rw [exec_init_of_true seed hans, initialise_eq_modeSet, if_pos rfl]
  | false => rw [exec_init_of_false seed hans, if_neg Bool.false_ne_true]

/-! ### The commands that need an initialised radio (R402, R403, R409) -/

/-- What SLEEP and WAKEUP share: the mode commanded, Class A, and the response. -/
theorem conclude_commandMode_classA {s : State} (op : Byte) (m : RadioMode) (hr : s.status.radioReady = true) :
    conclude op s (do
      let s1 ← radioSetMode m s
      return { s1 with session.classCur := .a }.respond [0x00#8]) =
    .next (answered [0x00#8] { modeSet m s with session.classCur := .a }) := by
  rw [radioSetMode_of_ready m hr]
  rfl

/-- Settles O26: the two commands differ in the mode and in the opcode a fault would carry. -/
theorem sleepAndWakeupCommandTheRadio : Obligations.SleepAndWakeupCommandTheRadio :=
  fun _ hr => ⟨conclude_commandMode_classA opSleep .sleep hr, conclude_commandMode_classA opWakeup .standby hr⟩

/-- Settles O27: an initialised radio answers the draw's raw value. -/
theorem rssiIsCalibratedAndReported : Obligations.RssiIsCalibratedAndReported := by
  intro s hr v
  rw [exec, execGetRssi, radioRssi_eq_ok.2 ⟨hr, rfl⟩]
  rfl

/-! ### READ_DATA and READ_ACK (R405, R406) -/

/-- A pending payload within the buffer is read from index 0 on. -/
theorem exec_readData_of_latched {s : State} (hl : s.status.rxLatch = true)
    (hfit : s.buffers.rxLen.toNat ≤ Config.bufCap) : exec .readData s = .next (answered
      (0x00#8 :: s.buffers.rxLen :: Memory.readMany s.buffers.rxBuf 0 s.buffers.rxLen.toNat)
      { s with status.rxLatch := false }) := by
  have hread : memRead s.buffers.rxBuf 0 s.buffers.rxLen.toNat =
      .ok (Memory.readMany s.buffers.rxBuf 0 s.buffers.rxLen.toNat) := memRead_eq_ok.2 ⟨by omega, rfl⟩
  rw [exec, execReadData, if_pos hl, hread]
  rfl

theorem exec_readData_of_clear {s : State} (hl : s.status.rxLatch = false) :
    exec .readData s = .next (answered [0x00#8, 0x00#8] s) := by
  rw [exec, execReadData, if_neg (Bool.eq_false_iff.1 hl), conclude_ok]
  rfl

/-- Settles O30: the latch is set or clear. -/
theorem readDataReturnsAndConsumes : Obligations.ReadDataReturnsAndConsumes := by
  refine fun s => ⟨fun hl hfit => ?_, exec_readData_of_clear⟩
  rw [exec_readData_of_latched hl hfit, Memory.readMany_eq_map]
  simp only [Nat.zero_add]

theorem exec_readAck (s : State) : exec .readAck s =
    .next (answered [0x00#8, boolByte s.status.ackLatch] { s with status.ackLatch := false }) := rfl

/-- With the latch clear there is nothing to consume: READ_ACK answers false and changes no register. -/
theorem exec_readAck_of_clear {s : State} (h : s.status.ackLatch = false) :
    exec .readAck s = .next (answered [0x00#8, 0x00#8] s) := by
  have hsame : ({ s with status.ackLatch := false } : State) = s := by rw [← h]
  rw [exec_readAck, h, hsame]
  rfl

/-- Settles O31: the first READ_ACK leaves the latch clear, which the second one finds. -/
theorem readAckIsTrueOnce : Obligations.ReadAckIsTrueOnce := by
  refine fun s => ⟨exec_readAck s, fun t ht => exec_readAck_of_clear ?_⟩
  rw [exec_readAck] at ht
  injection ht with ht
  rw [← ht]

end Sys2Proof.Machine
end

section
/-! The exceptions: a faulted state has no step (O10), the radio commands before an INIT succeeded (O28) and the
transmission on a fixed channel (O29). -/

namespace Sys2Proof.Machine

open Sys2Proof.Claims

/-- Settles O10: the fault test stands before the choice of the move. -/
theorem faultedStateHasNoStep : Obligations.FaultedStateHasNoStep := fun _ => step_of_faulted

/-! ### An operation after an answer and after a fault -/

theorem ok_bind {α : Type} (a : α) (k : α → Except ModelFault State) : (Except.ok a >>= k) = k a := rfl

theorem error_bind {α : Type} (f : ModelFault) (k : α → Except ModelFault State) :
    ((Except.error f : Except ModelFault α) >>= k) = .error f := rfl

/-! ### Before an INIT succeeded (R511) -/

theorem radioAvailable_of_not_ready {s : State} (h : s.status.radioReady = false) :
    radioAvailable s = .error (.radioNotReady .available) := by
  rw [radioAvailable, h, if_neg Bool.false_ne_true]

theorem radioRssi_of_not_ready {s : State} (h : s.status.radioReady = false) :
    radioRssi s = .error (.radioNotReady .rssi) := by
  rw [radioRssi, h, if_neg Bool.false_ne_true]

/-- An operation that begins with RadioSetMode goes no further than it. -/
theorem radioSetMode_bind_of_not_ready {s : State} (m : RadioMode) (k : State → Except ModelFault State)
    (h : s.status.radioReady = false) : (radioSetMode m s >>= k) = .error (.radioNotReady .setMode) := by
  rw [radioSetMode_of_not_ready m h, error_bind]

theorem startJoin_of_not_ready {s : State} (h : s.status.radioReady = false) :
    startJoin s = .error (.radioNotReady .setMode) :=
  radioSetMode_bind_of_not_ready _ _ (by rwa [prepareJoin_radioReady])

/-- CYCLE_START encodes before it commands the radio, so its payload must be readable for the radio to be the first to
fail (R304). -/
theorem cycleStart_of_not_ready {kind : DataKind} {payload : List Byte} {s : State} (h : s.status.radioReady = false)
    (hp : kind = .uplink ∧ memRead s.buffers.txBuf 0 s.buffers.txLen.toNat = .ok payload ∨
      kind = .ack ∧ payload = []) :
    cycleStart kind s = .error (.radioNotReady .setMode) := by
  have henc := (encodeDataUp_eq_ok (s := prepareCycle s)).2 ⟨payload, by simpa using hp, rfl⟩
  rw [cycleStart, henc, ok_bind]
  exact radioSetMode_bind_of_not_ready _ _ (by simpa using h)

theorem pollClassC_of_not_ready {s : State} (h : s.status.radioReady = false) :
    pollClassC s = .error (.radioNotReady .available) := by
  rw [pollClassC, radioAvailable_of_not_ready h, error_bind]

/-- The tick of a device that wants Class C fails in the arming, or in the poll where Class C is armed (R353, R354). -/
theorem classTick_of_not_ready {s : State} (h : s.status.radioReady = false) (hq : s.settings.classReq = .c) :
    classTick s = .error (.radioNotReady (if s.session.classCur = .a then .setMode else .available)) := by
  cases hcur : s.session.classCur with
  | a =>
    have harm : armClassC s = .error (.radioNotReady .setMode) := by
      rw [armClassC, hcur]
      exact radioSetMode_bind_of_not_ready _ _ h
    simp only [classTick, hq, harm, error_bind, ↓reduceIte]
  | c =>
    have harm : armClassC s = .ok s := armClassC_eq_ok.2 (.inl ⟨hcur, rfl⟩)
    simp only [classTick, hq, harm, ok_bind, pollClassC_of_not_ready h, error_bind, reduceCtorEq, ↓reduceIte]

/-- Settles O28: each command's first primitive fails, and the fault's record is all that is left of its step. -/
theorem radioCommandsBeforeInitFault : Obligations.RadioCommandsBeforeInitFault := by
  refine fun s h => ⟨?_, ?_, ?_, ?_, fun hpending => ?_, fun hc hq => ?_⟩
  · exact congrArg (conclude opSleep s) (radioSetMode_bind_of_not_ready .sleep _ h)
  · exact congrArg (conclude opWakeup s) (radioSetMode_bind_of_not_ready .standby _ h)
  · rw [exec, execGetRssi, radioRssi_of_not_ready h]
    rfl
  · exact congrArg (conclude opJoin s) (startJoin_of_not_ready h)
  · obtain ⟨kind, payload, hstep, hpay⟩ := updateStep_eq_cycleStart hpending
    exact congrArg (conclude opUpdate s) (hstep.trans (cycleStart_of_not_ready h hpay))
  · have hstep : updateStep s = classTick s := by simp only [updateStep, hc]
    exact congrArg (conclude opUpdate s) (hstep.trans (classTick_of_not_ready h hq))

/-! ### A transmission on a channel that may be undefined (R512) -/

/-- `r` is the outcome of an operation that, in `s`, sends one frame on UP(`i`), or faults where the region does not define
the channel. -/
def SendsOn (i : BitVec 3) (s : State) (r : Except ModelFault State) : Prop :=
  ∃ (t : State) (e : TxEntry), t.observed.txLog = s.observed.txLog ++ [e] ∧ e.ch = .up i ∧
    r = if Config.chValid i then .ok t else .error (.channelUndefined i)

/-- A concluded transmission, in the form of the claim. -/
theorem SendsOn.conclude {i : BitVec 3} {s : State} {r : Except ModelFault State} (h : SendsOn i s r) (op : Byte) :
    ∃ (t : State) (e : TxEntry), t.observed.txLog = s.observed.txLog ++ [e] ∧ e.ch = .up i ∧
      conclude op s r = .next (if Config.chValid i then t else faulted (.channelUndefined i) op s) := by
  obtain ⟨t, e, hlog, hch, hr⟩ := h
  refine ⟨t, e, hlog, hch, ?_⟩
  rw [hr]
  cases Config.chValid i <;> rfl

/-- What JOIN and CYCLE_START end with: standby, the transmission of FRAME on TX_CH, and `finish`, which sends nothing
(R271, R304). -/
theorem sendsOn_standby_transmit {p : State} (finish : State → State) (hr : p.status.radioReady = true)
    (hfinish : ∀ u, (finish u).observed = u.observed) :
    SendsOn p.settings.txCh p (do
      let s1 ← radioSetMode .standby p
      let s2 ← radioTransmit s1.sequencer.frame s1.settings.txCh (s1.settings.txDr.setWidth 8) s1.settings.txPower s1
      return finish s2) := by
  refine ⟨finish ((p.commandMode .standby).transmit
    { frame := p.sequencer.frame, ch := .up p.settings.txCh
      dr := p.settings.txDr.setWidth 8, pwr := p.settings.txPower }), _, by rw [hfinish]; rfl, rfl, ?_⟩
  have hr1 : (p.commandMode .standby).status.radioReady = true := hr
  rw [radioSetMode_of_ready .standby hr, ok_bind, State.commandMode_settings]
  cases hv : Config.chValid p.settings.txCh with
  | true =>
    rw [radioTransmit_of_ready hr1 hv, ok_bind]
    rfl
  | false =>
    rw [radioTransmit_of_undefined hr1 hv, error_bind]
    rfl

theorem sendsOn_startJoin {s : State} (hr : s.status.radioReady = true) :
    SendsOn (txChannel s) s (startJoin s) := by
  have hsends := sendsOn_standby_transmit (p := prepareJoin s)
    (fun u => { u with status.joinState := .joinSent, sequencer.seq := .joinTx })
    (by rwa [prepareJoin_radioReady]) fun _ => rfl
  have hchan : (prepareJoin s).settings.txCh = txChannel s := by rw [prepareJoin_eq]
  rwa [hchan, SendsOn, prepareJoin_observed] at hsends

theorem sendsOn_cycleStart {kind : DataKind} {payload : List Byte} {s : State} (hr : s.status.radioReady = true)
    (hp : kind = .uplink ∧ memRead s.buffers.txBuf 0 s.buffers.txLen.toNat = .ok payload ∨
      kind = .ack ∧ payload = []) :
    SendsOn (txChannel s) s (cycleStart kind s) := by
  have henc := (encodeDataUp_eq_ok (s := prepareCycle s)).2 ⟨payload, by simpa using hp, rfl⟩
  have hchan : (prepareCycle s).settings.txCh = txChannel s := by rw [prepareCycle, hopChannel_eq]
  have hsends := sendsOn_standby_transmit
    (p := { prepareCycle s with
      sequencer.frame := dataUpFrame kind (prepareCycle s) payload
      buffers.msgMeta := dataUpMeta kind (prepareCycle s) })
    (fun u => { u.fcntAdvance with sequencer.seq := .cycTx }) (by simpa using hr) fun _ => rfl
  rw [hchan, SendsOn, prepareCycle_observed] at hsends
  rw [cycleStart, henc, ok_bind]
  exact hsends

/-- Settles O29: in FIXED mode the transmission's channel is TX_CH. -/
theorem undefinedChannelFaultsBeforeTransmit : Obligations.UndefinedChannelFaultsBeforeTransmit := by
  intro s hr hm i
  have hi : txChannel s = i := by simp only [txChannel, hm, i]
  refine ⟨hi ▸ (sendsOn_startJoin hr).conclude opJoin, fun hpending => ?_⟩
  obtain ⟨kind, payload, hstep, hpay⟩ := updateStep_eq_cycleStart hpending
  have hsends : SendsOn i s (updateStep s) := hi ▸ hstep ▸ sendsOn_cycleStart hr hpay
  exact hsends.conclude opUpdate

end Sys2Proof.Machine
end
